-- ==== Sys2Proof/Word.lean ====
section
/-! DEFINITION. The words the machine moves: bytes, 24-bit instruction cells, register numbers and source numbers. -/

namespace Sys2Proof

/-- Registers, data cells, stack entries, operand bytes and program addresses (10_state R20, R24; 20_memory R53, R59). -/
abbrev Byte := BitVec 8

/-- One program-memory cell: opcode 23..16, operand1 15..8, operand2 7..0 (30_encoding R80). -/
abbrev Word24 := BitVec 24

/-- A general register number 0..31 (10_state R20). -/
abbrev Reg := Fin 32

/-- The number of a register that can be the low half of a pointer pair: 0..30, so that the next register exists
(10_state R22; 93 entry U5). -/
abbrev PtrLow := Fin 31

/-- A pin-change interrupt source 0, 1, 2 (60_exceptions R234). -/
abbrev Source := Fin 3

end Sys2Proof
end

