-- ==== Sys2Proof/Config.lean ====
section
/-! DEFINITION. The fixed sizes of the core and its OPEN parameters (00_scope R8). The parameters travel in State as plain
data that no step writes, so every statement over all states holds for every value of them. -/

namespace Sys2Proof

/-- `DMEM_SIZE`: data-memory bytes (00_scope R8). -/
abbrev dmemSize : Nat := 2000

/-- `EXT_OFFSET`: the offset of the extended region (00_scope R8). -/
abbrev extOffset : Nat := 256

/-- `STACK_CAP`: stack capacity in bytes (00_scope R8). -/
abbrev stackCap : Nat := 1024

/-- `PROG_SIZE`: program-memory cells (00_scope R8). -/
abbrev progSize : Nat := 256

/-- The parameters the spec leaves OPEN (00_scope R8; 93 entries U4, U5). `vec[n]` is `VEC[n]`, any byte; `ptrALo` and
`ptrBLo` are `PTR_A_LO` and `PTR_B_LO`, any low-register numbers, not assumed distinct. -/
structure Config where
  vec    : Vector Byte 3
  ptrALo : PtrLow
  ptrBLo : PtrLow
  deriving DecidableEq, Repr

/-- The spec's recommended defaults: vectors 0x02, 0x04, 0x06 and pairs R27:R26, R29:R28 (00_scope R8; decisions D11, D21).
DESIGN CHOICE, unsafe where a claim uses the values: log entry 2. -/
def Config.default : Config where
  vec    := #v[0x02#8, 0x04#8, 0x06#8]
  ptrALo := 26
  ptrBLo := 28

end Sys2Proof
end

