-- ==== Sys2Proof/Machine/Peripherals.lean ====
section
/-! DEFINITION. The peripheral table: physical data-memory addresses and bit positions (10_state R31, R32; decisions D19 and
D20; log entry 11). Every other file uses these names, so an audit changes this table and no rule. -/

namespace Sys2Proof.Machine

/-- `DDRn`: 0, 3, 6 (10_state R31). Storage without a hardware function (10_state R30). -/
def ddrAddr (n : Source) : Nat := 3 * n.val

/-- `PORTn`: 1, 4, 7 (10_state R31). Storage without a hardware function (10_state R30). -/
def portAddr (n : Source) : Nat := 3 * n.val + 1

/-- `PINn`: 2, 5, 8 (10_state R31). -/
def pinAddr (n : Source) : Nat := 3 * n.val + 2

/-- `PCICR`, offset 9 in the extended region: 265 (10_state R31). -/
def pcicrAddr : Nat := 265

/-- `PCIFR`, offset 10 in the extended region: 266 (10_state R31). -/
def pcifrAddr : Nat := 266

/-- `PCMSKn`, offsets 16, 17, 18 in the extended region: 272, 273, 274 (10_state R31). -/
def pcmskAddr (n : Source) : Nat := 272 + n.val

/-- The bit of `PCICR` that enables source n (10_state R32). -/
def pcieBit (n : Source) : Nat := n.val

/-- The bit of `PCIFR` that holds source n's pending flag (10_state R32). -/
def pcifBit (n : Source) : Nat := n.val

end Sys2Proof.Machine
end

