-- ==== Sys2Proof/Syntax.lean ====
section
/-! DEFINITION. The instructions of the core, one constructor per row of spec/opcode_table.json, in the table's order. -/

namespace Sys2Proof

/-- The closed set of 42 instruction kinds with their operands (30_encoding R83, R84). A register operand is a register by
type, a pointer operand the number of a possible low register; whether that number is one of the two designated pairs is
`Instr.wellFormed`. An unused operand byte is no part of the instruction (30_encoding R89). `inp` is IN. -/
inductive Instr where
  /-- NOP: no operation (R120). -/
  | nop
  /-- LDI: x[d] <- K (R121). -/
  | ldi (d : Reg) (k : Byte)
  /-- MOV: x[d] <- x[r] (R122). -/
  | mov (d : Reg) (r : Reg)
  /-- OUT: dmem[A] <- x[r] (R131). -/
  | out (a : Byte) (r : Reg)
  /-- IN: x[d] <- dmem[A] (R132). -/
  | inp (d : Reg) (a : Byte)
  /-- STS: dmem[k + 256] <- x[r] (R133). -/
  | sts (k : Byte) (r : Reg)
  /-- LDS: x[d] <- dmem[k + 256] (R134). -/
  | lds (d : Reg) (k : Byte)
  /-- CLR: x[d] <- 0 (R123). -/
  | clr (d : Reg)
  /-- ORI: x[d] <- x[d] or K (R157). -/
  | ori (d : Reg) (k : Byte)
  /-- ANDI: x[d] <- x[d] and K (R158). -/
  | andi (d : Reg) (k : Byte)
  /-- XORI: x[d] <- x[d] xor K (R159). -/
  | xori (d : Reg) (k : Byte)
  /-- OR: x[d] <- x[d] or x[r] (R160). -/
  | or (d : Reg) (r : Reg)
  /-- AND: x[d] <- x[d] and x[r] (R161). -/
  | and (d : Reg) (r : Reg)
  /-- XOR: x[d] <- x[d] xor x[r] (R162). -/
  | xor (d : Reg) (r : Reg)
  /-- ADDI: x[d] <- x[d] + K (R163). -/
  | addi (d : Reg) (k : Byte)
  /-- SUBI: x[d] <- x[d] - K (R164). -/
  | subi (d : Reg) (k : Byte)
  /-- ADD: x[d] <- x[d] + x[r] (R165). -/
  | add (d : Reg) (r : Reg)
  /-- SUB: x[d] <- x[d] - x[r] (R166). -/
  | sub (d : Reg) (r : Reg)
  /-- INC: x[d] <- x[d] + 1 (R167). -/
  | inc (d : Reg)
  /-- DEC: x[d] <- x[d] - 1 (R168). -/
  | dec (d : Reg)
  /-- CPI: flags of x[d] - K (R169). -/
  | cpi (d : Reg) (k : Byte)
  /-- CP: flags of x[d] - x[r] (R170). -/
  | cp (d : Reg) (r : Reg)
  /-- JMP: jump to t (R181). -/
  | jmp (t : Byte)
  /-- BREQ: branch to t if equal (R182). -/
  | breq (t : Byte)
  /-- BRNE: branch to t if not equal (R183). -/
  | brne (t : Byte)
  /-- BRGE: branch to t if greater or equal, signed (R184). -/
  | brge (t : Byte)
  /-- BRGT: branch to t if greater, signed (R185). -/
  | brgt (t : Byte)
  /-- BRLE: branch to t if less or equal, signed (R186). -/
  | brle (t : Byte)
  /-- BRLT: branch to t if less, signed (R187). -/
  | brlt (t : Byte)
  /-- CALL: call t (R190). -/
  | call (t : Byte)
  /-- RET: return (R188). -/
  | ret
  /-- RETI: return from interrupt (R189). -/
  | reti
  /-- PUSH: push x[r] (R200). -/
  | push (r : Reg)
  /-- POP: pop into x[d] (R201). -/
  | pop (d : Reg)
  /-- LSL: logical shift left by one (R210). -/
  | lsl (d : Reg)
  /-- LSR: logical shift right by one (R211). -/
  | lsr (d : Reg)
  /-- SEI: global interrupt set (R220). -/
  | sei
  /-- CLI: global interrupt clear (R221). -/
  | cli
  /-- STIO: store x[r] at ptr(p) (R135). -/
  | stio (p : PtrLow) (r : Reg)
  /-- LDIO: load x[d] from ptr(p) (R136). -/
  | ldio (d : Reg) (p : PtrLow)
  /-- ST: store x[r] at ptr(p) + 256 (R137). -/
  | st (p : PtrLow) (r : Reg)
  /-- LD: load x[d] from ptr(p) + 256 (R138). -/
  | ld (d : Reg) (p : PtrLow)
  deriving DecidableEq, Repr

end Sys2Proof
end

