-- ==== Sys2Proof/WellFormed.lean ====
section
/-! DEFINITION. Which instructions a program may hold: the pointer operand must name a designated pair (30_encoding R88). A
register field above 31 cannot be written down as an `Instr`; the decoder refuses it by name (30_encoding R87). -/

namespace Sys2Proof

/-- Whether a register number is one of the two designated pairs' low registers (10_state R22; 30_encoding R88). -/
def Config.designated (cfg : Config) (p : PtrLow) : Bool :=
  p == cfg.ptrALo || p == cfg.ptrBLo

/-- The instruction holds no reserved operand (30_encoding R87, R88). -/
def Instr.wellFormed (cfg : Config) : Instr → Bool
  | .nop => true
  | .ldi _ _ => true
  | .mov _ _ => true
  | .out _ _ => true
  | .inp _ _ => true
  | .sts _ _ => true
  | .lds _ _ => true
  | .clr _ => true
  | .ori _ _ => true
  | .andi _ _ => true
  | .xori _ _ => true
  | .or _ _ => true
  | .and _ _ => true
  | .xor _ _ => true
  | .addi _ _ => true
  | .subi _ _ => true
  | .add _ _ => true
  | .sub _ _ => true
  | .inc _ => true
  | .dec _ => true
  | .cpi _ _ => true
  | .cp _ _ => true
  | .jmp _ => true
  | .breq _ => true
  | .brne _ => true
  | .brge _ => true
  | .brgt _ => true
  | .brle _ => true
  | .brlt _ => true
  | .call _ => true
  | .ret => true
  | .reti => true
  | .push _ => true
  | .pop _ => true
  | .lsl _ => true
  | .lsr _ => true
  | .sei => true
  | .cli => true
  | .stio p _ => cfg.designated p
  | .ldio _ p => cfg.designated p
  | .st p _ => cfg.designated p
  | .ld _ p => cfg.designated p

end Sys2Proof
end

