-- ==== Sys2Proof/Decode.lean ====
section
/-! DEFINITION. From a 24-bit word to an instruction, and back. The opcode map and the operand roles are two tables (decisions
D2 and D3 of 92_eei_decisions; log entries 3 and 4): an audit against another numbering changes these and no rule. -/

namespace Sys2Proof

/-- An instruction kind, whatever its opcode and operands (30_encoding R84). -/
inductive Kind where
  | nop | ldi | mov | out | inp | sts | lds | clr | ori | andi | xori
  | or | and | xor | addi | subi | add | sub | inc | dec | cpi | cp
  | jmp | breq | brne | brge | brgt | brle | brlt | call | ret | reti | push
  | pop | lsl | lsr | sei | cli | stio | ldio | st | ld
  deriving DecidableEq, Repr

/-- The opcode map: one row per kind (30_encoding R84). -/
def opcodeTable : List (Byte × Kind) :=
  [(0x00#8, .nop), (0x01#8, .ldi), (0x02#8, .mov), (0x03#8, .out), (0x04#8, .inp), (0x05#8, .sts), (0x06#8, .lds),
   (0x07#8, .clr), (0x08#8, .ori), (0x09#8, .andi), (0x0A#8, .xori), (0x0B#8, .or), (0x0C#8, .and), (0x0D#8, .xor),
   (0x0E#8, .addi), (0x0F#8, .subi), (0x10#8, .add), (0x11#8, .sub), (0x12#8, .inc), (0x13#8, .dec), (0x14#8, .cpi),
   (0x15#8, .cp), (0x16#8, .jmp), (0x17#8, .breq), (0x18#8, .brne), (0x19#8, .brge), (0x1A#8, .brgt), (0x1B#8, .brle),
   (0x1C#8, .brlt), (0x1D#8, .call), (0x1E#8, .ret), (0x1F#8, .reti), (0x20#8, .push), (0x21#8, .pop), (0x22#8, .lsl),
   (0x23#8, .lsr), (0x24#8, .sei), (0x25#8, .cli), (0x26#8, .stio), (0x27#8, .ldio), (0x28#8, .st), (0x29#8, .ld)]

/-- The kind an opcode byte selects; none for an unrecognized opcode (30_encoding R85, R86). -/
def kindOf (opc : Byte) : Option Kind :=
  (opcodeTable.find? fun row => row.1 == opc).map fun row => row.2

/-- The opcode byte of a kind (30_encoding R84). -/
def opcodeOf (k : Kind) : Byte :=
  ((opcodeTable.find? fun row => row.2 == k).map fun row => row.1).getD 0xFF#8

/-- The operand byte that names a register (30_encoding R82). -/
def regByte (r : Reg) : Byte := BitVec.ofNat 8 r.val

/-- The operand byte that names a pointer pair by its low register (30_encoding R82). -/
def ptrByte (p : PtrLow) : Byte := BitVec.ofNat 8 p.val

/-- What a word decodes to. The last three are rejections by name. -/
inductive Decoded where
  /-- A recognized opcode with admitted operand fields. -/
  | instr (i : Instr)
  /-- Opcode 0x2A to 0xFF: an architected reset, not an error (30_encoding R86). -/
  | unrecognized (opc : Byte)
  /-- A register field of 32 to 255: reserved (30_encoding R87). -/
  | reservedRegister (field : Byte)
  /-- A pointer field of 31 to 255, which has no pair: reserved (30_encoding R88). -/
  | reservedPointer (field : Byte)
  deriving DecidableEq, Repr

/-- Read an operand byte as a register number (30_encoding R82, R87). -/
def onReg (b : Byte) (f : Reg → Decoded) : Decoded :=
  if h : b.toNat < 32 then f ⟨b.toNat, h⟩ else .reservedRegister b

/-- Read an operand byte as the low register of a pair (30_encoding R82, R88). -/
def onPtr (b : Byte) (f : PtrLow → Decoded) : Decoded :=
  if h : b.toNat < 31 then f ⟨b.toNat, h⟩ else .reservedPointer b

/-- The operand roles: what `operand1` and `operand2` mean for each kind (30_encoding R83; unused bytes ignored, R89). -/
def build : Kind → Byte → Byte → Decoded
  | .nop, _, _ => .instr .nop
  | .ldi, a, b => onReg a fun d => .instr (.ldi d b)
  | .mov, a, b => onReg a fun d => onReg b fun r => .instr (.mov d r)
  | .out, a, b => onReg b fun r => .instr (.out a r)
  | .inp, a, b => onReg a fun d => .instr (.inp d b)
  | .sts, a, b => onReg b fun r => .instr (.sts a r)
  | .lds, a, b => onReg a fun d => .instr (.lds d b)
  | .clr, a, _ => onReg a fun d => .instr (.clr d)
  | .ori, a, b => onReg a fun d => .instr (.ori d b)
  | .andi, a, b => onReg a fun d => .instr (.andi d b)
  | .xori, a, b => onReg a fun d => .instr (.xori d b)
  | .or, a, b => onReg a fun d => onReg b fun r => .instr (.or d r)
  | .and, a, b => onReg a fun d => onReg b fun r => .instr (.and d r)
  | .xor, a, b => onReg a fun d => onReg b fun r => .instr (.xor d r)
  | .addi, a, b => onReg a fun d => .instr (.addi d b)
  | .subi, a, b => onReg a fun d => .instr (.subi d b)
  | .add, a, b => onReg a fun d => onReg b fun r => .instr (.add d r)
  | .sub, a, b => onReg a fun d => onReg b fun r => .instr (.sub d r)
  | .inc, a, _ => onReg a fun d => .instr (.inc d)
  | .dec, a, _ => onReg a fun d => .instr (.dec d)
  | .cpi, a, b => onReg a fun d => .instr (.cpi d b)
  | .cp, a, b => onReg a fun d => onReg b fun r => .instr (.cp d r)
  | .jmp, a, _ => .instr (.jmp a)
  | .breq, a, _ => .instr (.breq a)
  | .brne, a, _ => .instr (.brne a)
  | .brge, a, _ => .instr (.brge a)
  | .brgt, a, _ => .instr (.brgt a)
  | .brle, a, _ => .instr (.brle a)
  | .brlt, a, _ => .instr (.brlt a)
  | .call, a, _ => .instr (.call a)
  | .ret, _, _ => .instr .ret
  | .reti, _, _ => .instr .reti
  | .push, a, _ => onReg a fun r => .instr (.push r)
  | .pop, a, _ => onReg a fun d => .instr (.pop d)
  | .lsl, a, _ => onReg a fun d => .instr (.lsl d)
  | .lsr, a, _ => onReg a fun d => .instr (.lsr d)
  | .sei, _, _ => .instr .sei
  | .cli, _, _ => .instr .cli
  | .stio, a, b => onPtr a fun p => onReg b fun r => .instr (.stio p r)
  | .ldio, a, b => onReg a fun d => onPtr b fun p => .instr (.ldio d p)
  | .st, a, b => onPtr a fun p => onReg b fun r => .instr (.st p r)
  | .ld, a, b => onReg a fun d => onPtr b fun p => .instr (.ld d p)

/-- Decode three separate bytes, as EXECUTE reads them from `opc`, `op1`, `op2` (30_encoding R85; 40_control_unit R104). -/
def decodeFields (opc a b : Byte) : Decoded :=
  match kindOf opc with
  | some k => build k a b
  | none   => .unrecognized opc

/-- Bits 23..16 (30_encoding R81). -/
def wordOpcode (w : Word24) : Byte := w.extractLsb' 16 8

/-- Bits 15..8 (30_encoding R81). -/
def wordOperand1 (w : Word24) : Byte := w.extractLsb' 8 8

/-- Bits 7..0 (30_encoding R81). -/
def wordOperand2 (w : Word24) : Byte := w.extractLsb' 0 8

/-- Decode a whole word (30_encoding R80, R81, R85). -/
def decode (w : Word24) : Decoded :=
  decodeFields (wordOpcode w) (wordOperand1 w) (wordOperand2 w)

/-- Three bytes as one word (30_encoding R80). -/
def packWord (opc a b : Byte) : Word24 := opc ++ a ++ b

/-- The kind and the two operand bytes of an instruction; an unused byte is 0 (30_encoding R83, R91). -/
def Instr.fields : Instr → Kind × Byte × Byte
  | .nop => (.nop, 0#8, 0#8)
  | .ldi d k => (.ldi, regByte d, k)
  | .mov d r => (.mov, regByte d, regByte r)
  | .out a r => (.out, a, regByte r)
  | .inp d a => (.inp, regByte d, a)
  | .sts k r => (.sts, k, regByte r)
  | .lds d k => (.lds, regByte d, k)
  | .clr d => (.clr, regByte d, 0#8)
  | .ori d k => (.ori, regByte d, k)
  | .andi d k => (.andi, regByte d, k)
  | .xori d k => (.xori, regByte d, k)
  | .or d r => (.or, regByte d, regByte r)
  | .and d r => (.and, regByte d, regByte r)
  | .xor d r => (.xor, regByte d, regByte r)
  | .addi d k => (.addi, regByte d, k)
  | .subi d k => (.subi, regByte d, k)
  | .add d r => (.add, regByte d, regByte r)
  | .sub d r => (.sub, regByte d, regByte r)
  | .inc d => (.inc, regByte d, 0#8)
  | .dec d => (.dec, regByte d, 0#8)
  | .cpi d k => (.cpi, regByte d, k)
  | .cp d r => (.cp, regByte d, regByte r)
  | .jmp t => (.jmp, t, 0#8)
  | .breq t => (.breq, t, 0#8)
  | .brne t => (.brne, t, 0#8)
  | .brge t => (.brge, t, 0#8)
  | .brgt t => (.brgt, t, 0#8)
  | .brle t => (.brle, t, 0#8)
  | .brlt t => (.brlt, t, 0#8)
  | .call t => (.call, t, 0#8)
  | .ret => (.ret, 0#8, 0#8)
  | .reti => (.reti, 0#8, 0#8)
  | .push r => (.push, regByte r, 0#8)
  | .pop d => (.pop, regByte d, 0#8)
  | .lsl d => (.lsl, regByte d, 0#8)
  | .lsr d => (.lsr, regByte d, 0#8)
  | .sei => (.sei, 0#8, 0#8)
  | .cli => (.cli, 0#8, 0#8)
  | .stio p r => (.stio, ptrByte p, regByte r)
  | .ldio d p => (.ldio, regByte d, ptrByte p)
  | .st p r => (.st, ptrByte p, regByte r)
  | .ld d p => (.ld, regByte d, ptrByte p)

/-- The instruction's kind. -/
def Instr.kind (i : Instr) : Kind := i.fields.1

/-- The word an assembler writes for an instruction (30_encoding R80, R83, R91). -/
def encode (i : Instr) : Word24 :=
  packWord (opcodeOf i.fields.1) i.fields.2.1 i.fields.2.2

/-- The instruction a decoding gives, if it gives one. -/
def Decoded.instr? : Decoded → Option Instr
  | .instr i            => some i
  | .unrecognized _     => none
  | .reservedRegister _ => none
  | .reservedPointer _  => none

/-- The one cell that holds the low `nbits` bits of `w`, all other bits 0. -/
def tableCell (nbits w : Nat) : Word24 := BitVec.ofNat 24 (w % 2 ^ nbits)

/-- The instruction read from an opcode-table word: one 24-bit cell, bit 0 the least significant bit of the cell. -/
def decodeTableWord (nbits w : Nat) : Option Instr :=
  (decode (tableCell nbits w)).instr?

end Sys2Proof
end

