-- ==== Sys2Proof/Machine/State.lean ====
section
/-! DEFINITION. The state of the core as plain data, every element of the state tuple of 10_state, with the parameters of
00_scope R8 beside it; the reasons a step can stop; and the state after reset. -/

namespace Sys2Proof.Machine

/-- The status register's six meaningful bits (10_state R26). No instruction reads or writes the register as a byte; its
byte layout is `Status.toByte`, with bits 7..6 at 0 (log entry 16). -/
structure Status where
  c : Bool
  v : Bool
  z : Bool
  n : Bool
  s : Bool
  i : Bool
  deriving DecidableEq, Repr

/-- The control unit's two-bit state register (10_state R34). `invalid` is its fourth code, which no rule produces
(40_control_unit R109; log entry 17). -/
inductive Phase where
  | fetch | decode | execute | invalid
  deriving DecidableEq, Repr

/-- A sparse store: the listed cells by rising address, none equal to 0, which is what an unlisted address reads as: the
spec's reset contents (10_state R41) and its unloaded program cell (20_memory R51). Log entry 21. -/
abbrev Cells (w : Nat) := List (Nat × BitVec w)

/-- The whole machine. -/
structure State where
  /-- `x[0]` to `x[31]` (10_state R20). -/
  regs    : Vector Byte 32
  /-- The program counter (10_state R24). -/
  pc      : Byte
  /-- The status register (10_state R26). -/
  sr      : Status
  /-- `state`, the transition the control unit performs next (10_state R34). -/
  phase   : Phase
  /-- The instruction register (10_state R35). -/
  ir      : Word24
  /-- The decoded opcode byte (10_state R35). -/
  opc     : Byte
  /-- The decoded operand1 byte (10_state R35). -/
  op1     : Byte
  /-- The decoded operand2 byte (10_state R35). -/
  op2     : Byte
  /-- The current instruction's address, for diagnostics (10_state R33). -/
  cia     : Byte
  /-- `dmem[0]` to `dmem[1999]`, the peripheral registers among them (20_memory R53; 10_state R31). -/
  dmem    : Cells 8
  /-- `stack[0]` to `stack[1023]` (10_state R38). -/
  stack   : Cells 8
  /-- The stack pointer, 0 to 1024, 1024 when empty (10_state R38). -/
  sp      : Fin 1025
  /-- `prev[0]` to `prev[2]`, the interrupt latches (10_state R37). -/
  prev    : Vector Byte 3
  /-- `stk_ovf`: a push was dropped (10_state R36). -/
  stkOvf  : Bool
  /-- `stk_unf`: a pop found the stack empty (10_state R36). -/
  stkUnf  : Bool
  /-- `mem_oor`: a data access was out of range (10_state R36). -/
  memOor  : Bool
  /-- `PROG`, the program image, a parameter no step writes (10_state R40; log entry 9). -/
  prog    : Cells 24
  /-- The OPEN parameters, which no step writes (00_scope R8; log entry 2). -/
  cfg     : Config
  deriving DecidableEq, Repr

/-- Why the machine could stop with a fault: it cannot. The spec names no fault ("no exceptions anywhere", 60_exceptions
R230), so nothing raises one and the type is empty. -/
inductive Fault where
  deriving DecidableEq, Repr

/-- Why a step is given no meaning. -/
inductive Refusal where
  /-- Raised by `exec` for an instruction without a meaning; no arm raises it. Safe. -/
  | notModelled (mnemonic : String)
  /-- Raised by the dispatch for a register field of 32 to 255, which the spec reserves (30_encoding R87). Safe. -/
  | reservedRegister (field : Byte)
  /-- Raised by the dispatch and by STIO, LDIO, ST, LD for a pointer field that names no designated pair, which the spec
  reserves (30_encoding R88). Safe. -/
  | reservedPointer (field : Byte)
  /-- Raised by the whole-instruction step started in DECODE or EXECUTE, which the spec refuses (40_control_unit R106).
  Safe. -/
  | midInstruction
  deriving DecidableEq, Repr

/-- The state after reset (10_state R41), with no program loaded (20_memory R51: every cell 0x000000) and the spec's default
parameters (00_scope R8). -/
def State.reset : State where
  regs   := Vector.replicate 32 0#8
  pc     := 0#8
  sr     := { c := false, v := false, z := false, n := false, s := false, i := false }
  phase  := .fetch
  ir     := 0#24
  opc    := 0#8
  op1    := 0#8
  op2    := 0#8
  cia    := 0#8
  dmem   := []
  stack  := []
  sp     := 1024
  prev   := Vector.replicate 3 0#8
  stkOvf := false
  stkUnf := false
  memOor := false
  prog   := []
  cfg    := Config.default

end Sys2Proof.Machine
end

