-- ==== Sys2Proof/Machine/Ops.lean ====
section
/-! DEFINITION. The named operations over the state: registers, the three stores, the stack, the full reset, taking an
interrupt and returning from one (00_scope R10 lists them as primitives). -/

namespace Sys2Proof.Machine

/-- How a meaning ends. -/
abbrev Result := Host.Outcome State Fault Refusal

/-- Carry a next state on; a stop stays a stop. -/
def andThen (r : Result) (f : State → Result) : Result :=
  match r with
  | .next s    => f s
  | .fault e   => .fault e
  | .refused e => .refused e

/-! ## Sparse stores -/

/-- The cell at an address; 0 where none is listed. -/
def cellAt {w : Nat} (m : Cells w) (a : Nat) : BitVec w :=
  match m with
  | []     => 0#w
  | c :: t => if c.1 = a then c.2 else cellAt t a

/-- The store without any entry for an address. -/
def eraseCell {w : Nat} (m : Cells w) (a : Nat) : Cells w :=
  m.filter fun c => c.1 != a

/-- The store with an entry put before the first higher address. -/
def insertCell {w : Nat} (m : Cells w) (a : Nat) (v : BitVec w) : Cells w :=
  match m with
  | []     => [(a, v)]
  | c :: t => if a < c.1 then (a, v) :: c :: t else c :: insertCell t a v

/-- Write one cell, keeping the canonical form: a cell that becomes 0 is no longer listed. -/
def writeCell {w : Nat} (m : Cells w) (a : Nat) (v : BitVec w) : Cells w :=
  if v = 0#w then eraseCell m a else insertCell (eraseCell m a) a v

/-- The canonical form: addresses strictly rising and below the bound, no entry 0. -/
abbrev Cells.Wf {w : Nat} (bound : Nat) (m : Cells w) : Prop :=
  m.Pairwise (fun c d => c.1 < d.1) ∧ ∀ c ∈ m, c.1 < bound ∧ c.2 ≠ 0#w

/-! ## Registers and single fields -/

/-- `x[r]` (10_state R20). -/
def State.x (s : State) (r : Reg) : Byte := s.regs[r.val]

/-- `x[r] <- v` (10_state R20). -/
def State.setX (s : State) (r : Reg) (v : Byte) : State :=
  { s with regs := s.regs.set r.val v }

/-- `pc <- t` (10_state R25). -/
def State.setPc (s : State) (t : Byte) : State := { s with pc := t }

/-- Write all six status bits (10_state R26). -/
def State.setSr (s : State) (f : Status) : State := { s with sr := f }

/-- `SR.I <- b` (10_state R27). -/
def State.setI (s : State) (b : Bool) : State := { s with sr := { s.sr with i := b } }

/-- `state <- p` (10_state R34). -/
def State.setPhase (s : State) (p : Phase) : State := { s with phase := p }

/-- `prev[n]` (10_state R37). -/
def State.latch (s : State) (n : Source) : Byte := s.prev[n.val]

/-- `prev[n] <- v` (10_state R37). -/
def State.setLatch (s : State) (n : Source) (v : Byte) : State :=
  { s with prev := s.prev.set n.val v }

/-- Replace the data memory. -/
def State.setDmem (s : State) (m : Cells 8) : State := { s with dmem := m }

/-- Replace the stack and its pointer. -/
def State.setStack (s : State) (m : Cells 8) (p : Fin 1025) : State := { s with stack := m, sp := p }

/-- `mem_oor <- 1` (10_state R36). -/
def State.markOor (s : State) : State := { s with memOor := true }

/-- `stk_ovf <- 1` (10_state R36). -/
def State.markOvf (s : State) : State := { s with stkOvf := true }

/-- `stk_unf <- 1` (10_state R36). -/
def State.markUnf (s : State) : State := { s with stkUnf := true }

/-! ## Program memory and data memory -/

/-- `ProgRead(a)` (20_memory R51). -/
def progRead (s : State) (a : Byte) : Word24 := cellAt s.prog a.toNat

/-- `MemRead(addr, 1)` (20_memory R54). -/
def memRead (a : Nat) (s : State) : Byte × State :=
  if a < dmemSize then (cellAt s.dmem a, s) else (0x00#8, s.markOor)

/-- `MemWrite(addr, 1, v)` (20_memory R55). -/
def memWrite (a : Nat) (v : Byte) (s : State) : State :=
  if a < dmemSize then s.setDmem (writeCell s.dmem a v) else s.markOor

/-- `MemSetBit(addr, b)` (20_memory R56). -/
def memSetBit (a b : Nat) (s : State) : State :=
  memWrite a ((memRead a s).1 ||| (1#8 <<< b)) (memRead a s).2

/-- `MemClearBit(addr, b)` (20_memory R56). -/
def memClearBit (a b : Nat) (s : State) : State :=
  memWrite a ((memRead a s).1 &&& ~~~(1#8 <<< b)) (memRead a s).2

/-- The byte a read of data memory gives, without the read's effect on the indicator. -/
def State.byteAt (s : State) (a : Nat) : Byte := (memRead a s).1

/-! ## The stack -/

/-- `Push(v)` (20_memory R60). -/
def push (v : Byte) (s : State) : State :=
  if s.sp.val = 0 then s.markOvf
  else s.setStack (writeCell s.stack (s.sp.val - 1) v) ⟨s.sp.val - 1, by omega⟩

/-- `Pop()` (20_memory R61). -/
def pop (s : State) : Byte × State :=
  if h : s.sp.val = stackCap then (0x00#8, s.markUnf)
  else (cellAt s.stack s.sp.val, s.setStack s.stack ⟨s.sp.val + 1, by simp only [stackCap] at h; omega⟩)

/-- The number of bytes on the stack (10_state R38; a diagnostic tap, 60_exceptions R252). -/
def State.depth (s : State) : Nat := stackCap - s.sp.val

/-- The byte in one stack cell. -/
def State.stackByte (s : State) (j : Nat) : Byte := cellAt s.stack j

/-- The last pushed value, if the stack holds any (a diagnostic tap, 60_exceptions R252). -/
def State.peekTop (s : State) : Option Byte :=
  if s.sp.val = stackCap then none else some (s.stackByte s.sp.val)

/-! ## Reset, interrupt entry and return -/

/-- `EngineReset()`: every element at its reset value, `PROG` and the parameters as they are (70 R260). -/
def engineReset (s : State) : State :=
  { State.reset with prog := s.prog, cfg := s.cfg }

/-- `VEC[n]` (60_exceptions R242). -/
def State.vector (s : State) (n : Source) : Byte := s.cfg.vec[n.val]

/-- `Service(n)`, taking an interrupt: clear the pending flag, push the `pc`, clear I, go to the vector
(60_exceptions R241). -/
def service (n : Source) (s : State) : State :=
  let s1 := memClearBit pcifrAddr (pcifBit n) s
  let s2 := push s1.pc s1
  (s2.setI false).setPc (s2.vector n)

/-- Pop the `pc`, as RET and RETI do (44_control_transfer R188). -/
def popPc (s : State) : State := (pop s).2.setPc (pop s).1

/-- The return from an interrupt: pop the `pc` and set I (44_control_transfer R189; 60_exceptions R244). -/
def returnFromInterrupt (s : State) : State := (popPc s).setI true

end Sys2Proof.Machine
end

