-- ==== Sys2Proof/Machine/Flags.lean ====
section
/-! DEFINITION. The status byte's layout, the ALU with its five flags, and the branch conditions. -/

namespace Sys2Proof.Machine

/-- The status register as a byte: C(0), V(1), Z(2), N(3), S(4), I(5), bits 7..6 at 0 (10_state R26). -/
def Status.toByte (f : Status) : Byte :=
  0#2 ++ BitVec.ofBool f.i ++ BitVec.ofBool f.s ++ BitVec.ofBool f.n ++ BitVec.ofBool f.z ++ BitVec.ofBool f.v ++
    BitVec.ofBool f.c

/-- The status register of a byte, bits 7..6 dropped (10_state R26). -/
def Status.ofByte (b : Byte) : Status where
  c := b.getLsbD 0
  v := b.getLsbD 1
  z := b.getLsbD 2
  n := b.getLsbD 3
  s := b.getLsbD 4
  i := b.getLsbD 5

/-- The ALU's operations (43_alu R150). -/
inductive AluOp where
  | or | and | xor | add | sub
  deriving DecidableEq, Repr

/-- The widened 9-bit result w (43_alu R150, R152). SUB adds the two's complement kept widened, 256 - b (R154). -/
def aluWide (op : AluOp) (a b : Byte) : BitVec 9 :=
  match op with
  | .or  => (a ||| b).setWidth 9
  | .and => (a &&& b).setWidth 9
  | .xor => (a ^^^ b).setWidth 9
  | .add => a.setWidth 9 + b.setWidth 9
  | .sub => a.setWidth 9 + (256#9 - b.setWidth 9)

/-- The result byte w[7:0] (43_alu R150). -/
def aluResult (op : AluOp) (a b : Byte) : Byte := (aluWide op a b).setWidth 8

/-- C: w[8] for ADD and SUB, else 0 (43_alu R150). -/
def aluCarry (op : AluOp) (a b : Byte) : Bool :=
  match op with
  | .or | .and | .xor => false
  | .add | .sub       => (aluWide op a b).getLsbD 8

/-- V: the operands' and the result's sign bits, by operation (43_alu R150, R153, R154). -/
def aluOverflow (op : AluOp) (a b : Byte) : Bool :=
  match op with
  | .or | .and | .xor => false
  | .add => a.getLsbD 7 == b.getLsbD 7 && (aluWide .add a b).getLsbD 7 != a.getLsbD 7
  | .sub => a.getLsbD 7 != b.getLsbD 7 && (aluWide .sub a b).getLsbD 7 == b.getLsbD 7

/-- N: bit 7 of the result (43_alu R155). -/
def aluNegative (op : AluOp) (a b : Byte) : Bool := (aluResult op a b).getLsbD 7

/-- Z: the result is 0 (43_alu R155). -/
def aluZero (op : AluOp) (a b : Byte) : Bool := aluResult op a b == 0#8

/-- All five flags, S last as N xor V; I kept (43_alu R150, R155). -/
def aluStatus (op : AluOp) (a b : Byte) (f : Status) : Status where
  c := aluCarry op a b
  v := aluOverflow op a b
  z := aluZero op a b
  n := aluNegative op a b
  s := aluNegative op a b ^^ aluOverflow op a b
  i := f.i

/-- The flag part of an ALU call: the compare, whose result is discarded (43_alu R169, R170). -/
def aluCompare (op : AluOp) (a b : Byte) (s : State) : State := s.setSr (aluStatus op a b s.sr)

/-- `x[d] <- ALU(op, a, b)` (43_alu R157 to R168). -/
def aluInto (op : AluOp) (d : Reg) (a b : Byte) (s : State) : State :=
  (aluCompare op a b s).setX d (aluResult op a b)

/-- The six branch conditions as functions of the status register (44_control_transfer R182 to R187). -/
def condEq (f : Status) : Bool := f.z
/-- BRNE tests not Z (44_control_transfer R183). -/
def condNe (f : Status) : Bool := !f.z
/-- BRGE tests not S (44_control_transfer R184). -/
def condGe (f : Status) : Bool := !f.s
/-- BRGT tests not S and not Z (44_control_transfer R185). -/
def condGt (f : Status) : Bool := !f.s && !f.z
/-- BRLE tests S or Z (44_control_transfer R186). -/
def condLe (f : Status) : Bool := f.s || f.z
/-- BRLT tests S (44_control_transfer R187). -/
def condLt (f : Status) : Bool := f.s

end Sys2Proof.Machine
end

