-- ==== Sys2Proof/Machine/Alu.lean ====
section
/-! DEFINITION. The fourteen instructions that call the ALU (43_alu). Each meaning is the dispatch part of EXECUTE: `pc` already holds the next
sequential address (00_scope R10). -/

namespace Sys2Proof.Machine

/-- ORI (R157). -/
def execOri (d : Reg) (k : Byte) (s : State) : Result :=
  .next (aluInto .or d (s.x d) k s)

/-- OR (R160). -/
def execOr (d r : Reg) (s : State) : Result :=
  .next (aluInto .or d (s.x d) (s.x r) s)

/-- ANDI (R158). -/
def execAndi (d : Reg) (k : Byte) (s : State) : Result :=
  .next (aluInto .and d (s.x d) k s)

/-- AND (R161). -/
def execAnd (d r : Reg) (s : State) : Result :=
  .next (aluInto .and d (s.x d) (s.x r) s)

/-- XORI (R159). -/
def execXori (d : Reg) (k : Byte) (s : State) : Result :=
  .next (aluInto .xor d (s.x d) k s)

/-- XOR (R162). -/
def execXor (d r : Reg) (s : State) : Result :=
  .next (aluInto .xor d (s.x d) (s.x r) s)

/-- ADDI (R163). -/
def execAddi (d : Reg) (k : Byte) (s : State) : Result :=
  .next (aluInto .add d (s.x d) k s)

/-- ADD (R165). -/
def execAdd (d r : Reg) (s : State) : Result :=
  .next (aluInto .add d (s.x d) (s.x r) s)

/-- SUBI (R164). -/
def execSubi (d : Reg) (k : Byte) (s : State) : Result :=
  .next (aluInto .sub d (s.x d) k s)

/-- SUB (R166). -/
def execSub (d r : Reg) (s : State) : Result :=
  .next (aluInto .sub d (s.x d) (s.x r) s)

/-- INC: an ALU ADD of 1, all five flags (R167; log entry 13). -/
def execInc (d : Reg) (s : State) : Result :=
  .next (aluInto .add d (s.x d) 0x01#8 s)

/-- DEC: an ALU SUB of 1, all five flags (R168; log entry 13). -/
def execDec (d : Reg) (s : State) : Result :=
  .next (aluInto .sub d (s.x d) 0x01#8 s)

/-- CPI (R169). -/
def execCpi (d : Reg) (k : Byte) (s : State) : Result :=
  .next (aluCompare .sub (s.x d) k s)

/-- CP (R170). -/
def execCp (d r : Reg) (s : State) : Result :=
  .next (aluCompare .sub (s.x d) (s.x r) s)

end Sys2Proof.Machine
end

