-- ==== Sys2Proof/Machine/Operands.lean ====
section
/-! DEFINITION. The operand forms: how an operand byte becomes an address, and the check on a pointer operand
(30_encoding R82; 42_io_and_memory R130). -/

namespace Sys2Proof.Machine

/-- Direct I/O: the operand byte itself, 0..255 (42_io_and_memory R130). -/
def ioAddress (a : Byte) : Nat := a.toNat

/-- Direct extended: the operand byte plus 256, 256..511 (42_io_and_memory R130). -/
def extAddress (k : Byte) : Nat := k.toNat + extOffset

/-- The low register of a pair (10_state R22). -/
def pairLow (p : PtrLow) : Reg := ⟨p.val, by omega⟩

/-- The high register of a pair, the next one (10_state R22). -/
def pairHigh (p : PtrLow) : Reg := ⟨p.val + 1, by omega⟩

/-- `ptr(p) = x[p+1] ++ x[p]` (10_state R22). -/
def ptr (p : PtrLow) (s : State) : BitVec 16 := s.x (pairHigh p) ++ s.x (pairLow p)

/-- Referenced I/O: the pointer, 0..65535 (42_io_and_memory R130). -/
def refIoAddress (p : PtrLow) (s : State) : Nat := (ptr p s).toNat

/-- Referenced data: the pointer plus 256 as an exact integer, 256..65791 (42_io_and_memory R130; 20_memory R57). -/
def refDataAddress (p : PtrLow) (s : State) : Nat := (ptr p s).toNat + extOffset

/-- The operation of an instruction with a pointer operand, refused where the operand names no designated pair
(30_encoding R88). -/
def onPair (p : PtrLow) (s : State) (op : State → State) : Result :=
  if s.cfg.designated p then .next (op s) else .refused (.reservedPointer (ptrByte p))

/-- `x[d] <- MemRead(a, 1)` (42_io_and_memory R130). -/
def loadInto (d : Reg) (a : Nat) (s : State) : State := (memRead a s).2.setX d (memRead a s).1

/-- `MemWrite(a, 1, x[r])` (42_io_and_memory R130). -/
def storeFrom (a : Nat) (r : Reg) (s : State) : State := memWrite a (s.x r) s

/-- `pc <- t` when the condition holds, else the next sequential address stays (44_control_transfer R180). -/
def branchIf (c : Bool) (t : Byte) (s : State) : State := if c then s.setPc t else s

end Sys2Proof.Machine
end

