-- ==== Sys2Proof/Machine/ControlTransfer.lean ====
section
/-! DEFINITION. JMP, the six branches, CALL, RET, RETI (44_control_transfer). Each meaning is the dispatch part of EXECUTE: `pc` already holds the next
sequential address (00_scope R10). -/

namespace Sys2Proof.Machine

/-- JMP (R181). -/
def execJmp (t : Byte) (s : State) : Result :=
  .next (s.setPc t)

/-- BREQ (R182). -/
def execBreq (t : Byte) (s : State) : Result :=
  .next (branchIf (condEq s.sr) t s)

/-- BRNE (R183). -/
def execBrne (t : Byte) (s : State) : Result :=
  .next (branchIf (condNe s.sr) t s)

/-- BRGE (R184). -/
def execBrge (t : Byte) (s : State) : Result :=
  .next (branchIf (condGe s.sr) t s)

/-- BRGT (R185). -/
def execBrgt (t : Byte) (s : State) : Result :=
  .next (branchIf (condGt s.sr) t s)

/-- BRLE (R186). -/
def execBrle (t : Byte) (s : State) : Result :=
  .next (branchIf (condLe s.sr) t s)

/-- BRLT (R187). -/
def execBrlt (t : Byte) (s : State) : Result :=
  .next (branchIf (condLt s.sr) t s)

/-- CALL: the jump is taken even when the push is dropped (R190; log entry 14). -/
def execCall (t : Byte) (s : State) : Result :=
  .next ((push s.pc s).setPc t)

/-- RET (R188). -/
def execRet (s : State) : Result :=
  .next (popPc s)

/-- RETI (R189). -/
def execReti (s : State) : Result :=
  .next (returnFromInterrupt s)

end Sys2Proof.Machine
end

