-- ==== Sys2Proof/Machine/DataMovement.lean ====
section
/-! DEFINITION. NOP, LDI, MOV, CLR (41_data_movement). Each meaning is the dispatch part of EXECUTE: `pc` already holds the next
sequential address (00_scope R10). -/

namespace Sys2Proof.Machine

/-- NOP (R120). -/
def execNop (s : State) : Result :=
  .next s

/-- LDI (R121). -/
def execLdi (d : Reg) (k : Byte) (s : State) : Result :=
  .next (s.setX d k)

/-- MOV (R122). -/
def execMov (d r : Reg) (s : State) : Result :=
  .next (s.setX d (s.x r))

/-- CLR: a register write, no flag (R123; log entry 13). -/
def execClr (d : Reg) (s : State) : Result :=
  .next (s.setX d 0x00#8)

end Sys2Proof.Machine
end

