-- ==== Sys2Proof/Machine/InterruptEnable.lean ====
section
/-! DEFINITION. SEI and CLI (47_interrupt_enable). Each meaning is the dispatch part of EXECUTE: `pc` already holds the next
sequential address (00_scope R10). -/

namespace Sys2Proof.Machine

/-- SEI (R220). -/
def execSei (s : State) : Result :=
  .next (s.setI true)

/-- CLI (R221). -/
def execCli (s : State) : Result :=
  .next (s.setI false)

end Sys2Proof.Machine
end

