-- ==== Sys2Proof/Machine/IoMemory.lean ====
section
/-! DEFINITION. OUT, IN, STS, LDS, STIO, LDIO, ST, LD (42_io_and_memory). Each meaning is the dispatch part of EXECUTE: `pc` already holds the next
sequential address (00_scope R10). -/

namespace Sys2Proof.Machine

/-- OUT (R131). -/
def execOut (a : Byte) (r : Reg) (s : State) : Result :=
  .next (storeFrom (ioAddress a) r s)

/-- IN (R132). -/
def execIn (d : Reg) (a : Byte) (s : State) : Result :=
  .next (loadInto d (ioAddress a) s)

/-- STS (R133). -/
def execSts (k : Byte) (r : Reg) (s : State) : Result :=
  .next (storeFrom (extAddress k) r s)

/-- LDS (R134). -/
def execLds (d : Reg) (k : Byte) (s : State) : Result :=
  .next (loadInto d (extAddress k) s)

/-- STIO (R135). -/
def execStio (p : PtrLow) (r : Reg) (s : State) : Result :=
  onPair p s (storeFrom (refIoAddress p s) r)

/-- LDIO: the pointer is read before the destination is written (R136). -/
def execLdio (d : Reg) (p : PtrLow) (s : State) : Result :=
  onPair p s (loadInto d (refIoAddress p s))

/-- ST (R137). -/
def execSt (p : PtrLow) (r : Reg) (s : State) : Result :=
  onPair p s (storeFrom (refDataAddress p s) r)

/-- LD: the pointer is read before the destination is written (R138). -/
def execLd (d : Reg) (p : PtrLow) (s : State) : Result :=
  onPair p s (loadInto d (refDataAddress p s))

end Sys2Proof.Machine
end

