-- ==== Sys2Proof/Machine/Shift.lean ====
section
/-! DEFINITION. LSL and LSR (46_shift). Each meaning is the dispatch part of EXECUTE: `pc` already holds the next
sequential address (00_scope R10). -/

namespace Sys2Proof.Machine

/-- LSL: one bit, zero fill, no flag (R210; log entry 13). -/
def execLsl (d : Reg) (s : State) : Result :=
  .next (s.setX d (s.x d <<< 1))

/-- LSR: one bit, zero fill, no flag (R211; log entry 13). -/
def execLsr (d : Reg) (s : State) : Result :=
  .next (s.setX d (s.x d >>> 1))

end Sys2Proof.Machine
end

