-- ==== Sys2Proof/Machine/StackOps.lean ====
section
/-! DEFINITION. PUSH and POP (45_stack). Each meaning is the dispatch part of EXECUTE: `pc` already holds the next
sequential address (00_scope R10). -/

namespace Sys2Proof.Machine

/-- PUSH (R200). -/
def execPush (r : Reg) (s : State) : Result :=
  .next (push (s.x r) s)

/-- POP (R201). -/
def execPop (d : Reg) (s : State) : Result :=
  .next ((pop s).2.setX d (pop s).1)

end Sys2Proof.Machine
end

