-- ==== Sys2Proof/Machine/Dispatch.lean ====
section
/-! DEFINITION. Which meaning each instruction has (40_control_unit R104), one arm per constructor. -/

namespace Sys2Proof.Machine

def exec (i : Instr) (s : State) : Host.Outcome State Fault Refusal :=
  match i with
  | .nop => Sys2Proof.Machine.execNop s
  | .ldi d k => Sys2Proof.Machine.execLdi d k s
  | .mov d r => Sys2Proof.Machine.execMov d r s
  | .out a r => Sys2Proof.Machine.execOut a r s
  | .inp d a => Sys2Proof.Machine.execIn d a s
  | .sts k r => Sys2Proof.Machine.execSts k r s
  | .lds d k => Sys2Proof.Machine.execLds d k s
  | .clr d => Sys2Proof.Machine.execClr d s
  | .ori d k => Sys2Proof.Machine.execOri d k s
  | .andi d k => Sys2Proof.Machine.execAndi d k s
  | .xori d k => Sys2Proof.Machine.execXori d k s
  | .or d r => Sys2Proof.Machine.execOr d r s
  | .and d r => Sys2Proof.Machine.execAnd d r s
  | .xor d r => Sys2Proof.Machine.execXor d r s
  | .addi d k => Sys2Proof.Machine.execAddi d k s
  | .subi d k => Sys2Proof.Machine.execSubi d k s
  | .add d r => Sys2Proof.Machine.execAdd d r s
  | .sub d r => Sys2Proof.Machine.execSub d r s
  | .inc d => Sys2Proof.Machine.execInc d s
  | .dec d => Sys2Proof.Machine.execDec d s
  | .cpi d k => Sys2Proof.Machine.execCpi d k s
  | .cp d r => Sys2Proof.Machine.execCp d r s
  | .jmp t => Sys2Proof.Machine.execJmp t s
  | .breq t => Sys2Proof.Machine.execBreq t s
  | .brne t => Sys2Proof.Machine.execBrne t s
  | .brge t => Sys2Proof.Machine.execBrge t s
  | .brgt t => Sys2Proof.Machine.execBrgt t s
  | .brle t => Sys2Proof.Machine.execBrle t s
  | .brlt t => Sys2Proof.Machine.execBrlt t s
  | .call t => Sys2Proof.Machine.execCall t s
  | .ret => Sys2Proof.Machine.execRet s
  | .reti => Sys2Proof.Machine.execReti s
  | .push r => Sys2Proof.Machine.execPush r s
  | .pop d => Sys2Proof.Machine.execPop d s
  | .lsl d => Sys2Proof.Machine.execLsl d s
  | .lsr d => Sys2Proof.Machine.execLsr d s
  | .sei => Sys2Proof.Machine.execSei s
  | .cli => Sys2Proof.Machine.execCli s
  | .stio p r => Sys2Proof.Machine.execStio p r s
  | .ldio d p => Sys2Proof.Machine.execLdio d p s
  | .st p r => Sys2Proof.Machine.execSt p r s
  | .ld d p => Sys2Proof.Machine.execLd d p s

end Sys2Proof.Machine
end

