-- ==== Sys2Proof/Machine/Interrupts.lean ====
section
/-! DEFINITION. The pin-change interrupt controller: the check of EXECUTE's step 3 and the monitors of its step 4
(60_exceptions R234 to R241). -/

namespace Sys2Proof.Machine

/-- Source n's pending flag in `PCIFR` (60_exceptions R234). -/
def pending (s : State) (n : Source) : Bool := (s.byteAt pcifrAddr).getLsbD (pcifBit n)

/-- Source n's enable bit in `PCICR` (60_exceptions R234). -/
def enabled (s : State) (n : Source) : Bool := (s.byteAt pcicrAddr).getLsbD (pcieBit n)

/-- The source the check accepts, if any: I set, then the first of 0, 1, 2 that is pending and enabled
(60_exceptions R239, R240). -/
def accepted (s : State) : Option Source :=
  if s.sr.i then
    if pending s 0 && enabled s 0 then some 0
    else if pending s 1 && enabled s 1 then some 1
    else if pending s 2 && enabled s 2 then some 2
    else none
  else none

/-- `CheckInterrupt()` (60_exceptions R240). -/
def checkInterrupt (s : State) : State :=
  match accepted s with
  | some n => service n s
  | none   => s

/-- Whether an enabled bit of `PINn` differs from the previous sample (60_exceptions R236). -/
def pinChanged (s : State) (n : Source) : Bool :=
  (s.byteAt (pinAddr n) ^^^ s.latch n) &&& s.byteAt (pcmskAddr n) != 0x00#8

/-- `Monitor(n)`: raise the pending flag on a change, and always take the new sample (60_exceptions R236). -/
def monitor (n : Source) (s : State) : State :=
  let s1 := if pinChanged s n then memSetBit pcifrAddr (pcifBit n) s else s
  s1.setLatch n (s.byteAt (pinAddr n))

/-- The three monitors in order (40_control_unit R103). -/
def monitors (s : State) : State := monitor 2 (monitor 1 (monitor 0 s))

end Sys2Proof.Machine
end

