-- ==== Sys2Proof/Machine/ControlUnit.lean ====
section
/-! DEFINITION. The control unit: FETCH, DECODE, EXECUTE, one transition at a time and one instruction at a time
(40_control_unit). -/

namespace Sys2Proof.Machine

/-- `DoFetch()` (R101); the 8-bit `pc` wraps (10_state R25). -/
def doFetch (s : State) : State :=
  { s with ir := progRead s s.pc, cia := s.pc, pc := s.pc + 1#8, phase := .decode }

/-- `DoDecode()` (R102). -/
def doDecode (s : State) : State :=
  { s with opc := wordOpcode s.ir, op1 := wordOperand1 s.ir, op2 := wordOperand2 s.ir, phase := .execute }

/-- `Dispatch(opc, op1, op2)` (R104): the instruction's own effect; a full reset for an unrecognized opcode (60_exceptions
R231); a refusal for a reserved encoding (30_encoding R87, R88). -/
def dispatch (s : State) : Result :=
  match decodeFields s.opc s.op1 s.op2 with
  | .instr i            => exec i s
  | .unrecognized _     => .next (engineReset s)
  | .reservedRegister b => .refused (.reservedRegister b)
  | .reservedPointer b  => .refused (.reservedPointer b)

/-- Steps 2 to 4 of EXECUTE: to FETCH, the interrupt check, the monitors (R103). -/
def executeTail (s : State) : State := monitors (checkInterrupt (s.setPhase .fetch))

/-- `DoExecute()` (R103); the tail runs after a reset too (R105). -/
def doExecute (s : State) : Result := andThen (dispatch s) fun t => .next (executeTail t)

/-- `Step()` of the spec: one transition (R100); the invalid control state forces a full reset and nothing else
(R109; 60_exceptions R232). -/
def transition (s : State) : Result :=
  match s.phase with
  | .fetch   => .next (doFetch s)
  | .decode  => .next (doDecode s)
  | .execute => doExecute s
  | .invalid => .next (engineReset s)

/-- The state in which the next instruction is dispatched: after its FETCH and DECODE (R101, R102). -/
def fetchDecode (s : State) : State := doDecode (doFetch s)

/-- `RunInstruction()` (R106): three transitions from FETCH; refused in mid-instruction; the invalid control state resets. -/
def runInstruction (s : State) : Result :=
  match s.phase with
  | .fetch   => doExecute (fetchDecode s)
  | .decode  => .refused .midInstruction
  | .execute => .refused .midInstruction
  | .invalid => .next (engineReset s)

end Sys2Proof.Machine
end

