-- ==== Sys2Proof/Machine/Step.lean ====
section
/-! DEFINITION. The machine's step, one whole instruction (40_control_unit R106, R107; log entry 1), and how the host
places an instruction where the step fetches. -/

namespace Sys2Proof.Machine

/-- One step: fetch, decode and execute one instruction, with the interrupt check and the monitors that end it. -/
def step (s : State) : Host.Outcome State Fault Refusal := runInstruction s

/-- `s` about to fetch the instruction `w` at its own `pc`. -/
def State.withFetchWord (s : State) (nbits w : Nat) : State :=
  { s with prog := writeCell s.prog s.pc.toNat (tableCell nbits w), phase := .fetch }

end Sys2Proof.Machine
end

