-- ==== Sys2Proof/Assembly.lean ====
section
/-! DEFINITION. The spec's assembly text for an instruction, its symbolic operand names, and the placing of a program in
storage cells (30_encoding R91). No rule of the machine depends on this file. -/

namespace Sys2Proof

/-- `R0` to `R31` (30_encoding R91). -/
def regText (r : Reg) : String := "R" ++ toString r.val

/-- `X` for pair A, `Y` for pair B; a number that names no designated pair has no text (30_encoding R88, R91). -/
def pairText (cfg : Config) (p : PtrLow) : Option String :=
  if p = cfg.ptrALo then some "X" else if p = cfg.ptrBLo then some "Y" else none

/-- A constant or an address, in decimal (30_encoding R91). -/
def byteText (b : Byte) : String := toString b.toNat

/-- The mnemonic of a kind (30_encoding R84). -/
def Kind.mnemonic : Kind → String
  | .nop => "NOP"
  | .ldi => "LDI"
  | .mov => "MOV"
  | .out => "OUT"
  | .inp => "IN"
  | .sts => "STS"
  | .lds => "LDS"
  | .clr => "CLR"
  | .ori => "ORI"
  | .andi => "ANDI"
  | .xori => "XORI"
  | .or => "OR"
  | .and => "AND"
  | .xor => "XOR"
  | .addi => "ADDI"
  | .subi => "SUBI"
  | .add => "ADD"
  | .sub => "SUB"
  | .inc => "INC"
  | .dec => "DEC"
  | .cpi => "CPI"
  | .cp => "CP"
  | .jmp => "JMP"
  | .breq => "BREQ"
  | .brne => "BRNE"
  | .brge => "BRGE"
  | .brgt => "BRGT"
  | .brle => "BRLE"
  | .brlt => "BRLT"
  | .call => "CALL"
  | .ret => "RET"
  | .reti => "RETI"
  | .push => "PUSH"
  | .pop => "POP"
  | .lsl => "LSL"
  | .lsr => "LSR"
  | .sei => "SEI"
  | .cli => "CLI"
  | .stio => "STIO"
  | .ldio => "LDIO"
  | .st => "ST"
  | .ld => "LD"

/-- The operands as text, in the order operand1, operand2 (30_encoding R83, R91). -/
def Instr.operandTexts (cfg : Config) : Instr → List (Option String)
  | .nop => []
  | .ldi d k => [some (regText d), some (byteText k)]
  | .mov d r => [some (regText d), some (regText r)]
  | .out a r => [some (byteText a), some (regText r)]
  | .inp d a => [some (regText d), some (byteText a)]
  | .sts k r => [some (byteText k), some (regText r)]
  | .lds d k => [some (regText d), some (byteText k)]
  | .clr d => [some (regText d)]
  | .ori d k => [some (regText d), some (byteText k)]
  | .andi d k => [some (regText d), some (byteText k)]
  | .xori d k => [some (regText d), some (byteText k)]
  | .or d r => [some (regText d), some (regText r)]
  | .and d r => [some (regText d), some (regText r)]
  | .xor d r => [some (regText d), some (regText r)]
  | .addi d k => [some (regText d), some (byteText k)]
  | .subi d k => [some (regText d), some (byteText k)]
  | .add d r => [some (regText d), some (regText r)]
  | .sub d r => [some (regText d), some (regText r)]
  | .inc d => [some (regText d)]
  | .dec d => [some (regText d)]
  | .cpi d k => [some (regText d), some (byteText k)]
  | .cp d r => [some (regText d), some (regText r)]
  | .jmp t => [some (byteText t)]
  | .breq t => [some (byteText t)]
  | .brne t => [some (byteText t)]
  | .brge t => [some (byteText t)]
  | .brgt t => [some (byteText t)]
  | .brle t => [some (byteText t)]
  | .brlt t => [some (byteText t)]
  | .call t => [some (byteText t)]
  | .ret => []
  | .reti => []
  | .push r => [some (regText r)]
  | .pop d => [some (regText d)]
  | .lsl d => [some (regText d)]
  | .lsr d => [some (regText d)]
  | .sei => []
  | .cli => []
  | .stio p r => [pairText cfg p, some (regText r)]
  | .ldio d p => [some (regText d), pairText cfg p]
  | .st p r => [pairText cfg p, some (regText r)]
  | .ld d p => [some (regText d), pairText cfg p]

/-- One line of assembly, for an instruction without a reserved operand (30_encoding R91). -/
def Instr.assembly (cfg : Config) (i : Instr) : Option String :=
  match i.operandTexts cfg with
  | []               => some i.kind.mnemonic
  | [a]              => a.map fun a => i.kind.mnemonic ++ " " ++ a
  | a :: b :: _      => a.bind fun a => b.map fun b => i.kind.mnemonic ++ " " ++ a ++ ", " ++ b

/-- The symbolic names of the peripheral registers and the operand bytes they stand for (30_encoding R91). -/
def symbolTable : List (String × Byte) :=
  [("DDR0", 0), ("PORT0", 1), ("PIN0", 2), ("DDR1", 3), ("PORT1", 4), ("PIN1", 5), ("DDR2", 6), ("PORT2", 7),
   ("PIN2", 8)] ++
  [("PCICR", 9), ("PCIFR", 10), ("PCMSK0", 16), ("PCMSK1", 17), ("PCMSK2", 18)]

/-- Place instructions at consecutive program addresses from `org` on, each in a storage cell of 32 bits
(30_encoding R91; 20_memory R51). DESIGN CHOICE (log entry 29): the spec says nothing of instructions that run past 0xFF;
here the addresses go on at 0x00, and more than 256 instructions name an address twice. -/
def placeAt (org : Byte) (is : List Instr) : List (Byte × BitVec 32) :=
  match is with
  | []      => []
  | i :: is => (org, (encode i).setWidth 32) :: placeAt (org + 1#8) is

end Sys2Proof
end

