-- ==== Sys2Proof/Machine/HostMoves.lean ====
section
/-! DEFINITION. What the host can do (70 R266 to R268; 00_scope R7): load the program and power up, and then, between
transitions, step, run one instruction, reset, or write a pin byte. Reading the state is Lean's own. -/

namespace Sys2Proof.Machine

/-- The loader's image: storage cells of 32 bits, of which the low 24 are significant, each at its program address; a cell
not written is 0x000000 (20_memory R51; 70 R266). DESIGN CHOICE (log entry 29): the spec has each cell written once (R52) and
says nothing of a list that names one address twice; here the later entry wins. -/
def loadImage (cells : List (Byte × BitVec 32)) : Cells 24 :=
  cells.foldl (fun m c => writeCell m c.1.toNat (c.2.setWidth 24)) []

/-- Power-up: the reset state with the program loaded and the parameters fixed (70 R261, R264, R266). -/
def powerUp (cfg : Config) (image : Cells 24) : State :=
  { State.reset with prog := image, cfg := cfg }

/-- `HostWritePin(n, v)` (70 R268). -/
def hostWritePin (n : Source) (v : Byte) (s : State) : State := memWrite (pinAddr n) v s

/-- A move of the host after the program is loaded (70 R267). -/
inductive HostMove where
  | step
  | runInstruction
  | reset
  | writePin (n : Source) (v : Byte)
  deriving DecidableEq, Repr

/-- The effect of a move (70 R267). -/
def hostMove (m : HostMove) (s : State) : Result :=
  match m with
  | .step           => transition s
  | .runInstruction => runInstruction s
  | .reset          => .next (engineReset s)
  | .writePin n v   => .next (hostWritePin n v s)

/-- A run: the host's moves in order, up to the first refusal (70 R267). -/
def hostRun (ms : List HostMove) (s : State) : Result :=
  match ms with
  | []      => .next s
  | m :: ms => andThen (hostMove m s) (hostRun ms)

end Sys2Proof.Machine
end

