-- ==== Sys2Proof/Safety.lean ====
section
/-! DEFINITION. The terms the claims are stated in: what stays the same, which instructions write what, the invariant, a
program the machine never refuses, runs without an indicator, and the encodings of 30_encoding R83. -/

namespace Sys2Proof.Machine

/-! ## What stays the same -/

/-- Every general register is unchanged. -/
def SameRegs (s t : State) : Prop := ∀ r, t.x r = s.x r

/-- Every general register but `d` is unchanged. -/
def SameRegsBut (d : Reg) (s t : State) : Prop := ∀ r, r ≠ d → t.x r = s.x r

/-- Every byte of data memory reads as before. -/
def SameMem (s t : State) : Prop := ∀ a, t.byteAt a = s.byteAt a

/-- Every byte of data memory but the one at `a` reads as before. -/
def SameMemBut (a : Nat) (s t : State) : Prop := ∀ b, b ≠ a → t.byteAt b = s.byteAt b

/-- The stack pointer and every stack cell are unchanged. -/
def SameStack (s t : State) : Prop := t.sp = s.sp ∧ ∀ j, t.stackByte j = s.stackByte j

/-- The three sticky indicators are unchanged. -/
def SameIndicators (s t : State) : Prop :=
  t.stkOvf = s.stkOvf ∧ t.stkUnf = s.stkUnf ∧ t.memOor = s.memOor

/-- C, V, Z, N and S are unchanged. -/
def SameArithmeticFlags (s t : State) : Prop :=
  t.sr.c = s.sr.c ∧ t.sr.v = s.sr.v ∧ t.sr.z = s.sr.z ∧ t.sr.n = s.sr.n ∧ t.sr.s = s.sr.s

/-- The control unit's own registers, the interrupt latches, the program and the parameters are unchanged. -/
def SameControl (s t : State) : Prop :=
  t.phase = s.phase ∧ t.ir = s.ir ∧ t.opc = s.opc ∧ t.op1 = s.op1 ∧ t.op2 = s.op2 ∧ t.cia = s.cia ∧
    t.prev = s.prev ∧ t.prog = s.prog ∧ t.cfg = s.cfg

/-- Everything outside the general registers, the status register, the `pc`, data memory, the stack and `mem_oor`. -/
def SameRest (s t : State) : Prop := SameStack s t ∧ SameIndicators s t ∧ SameControl s t

/-- Nothing but register `d` may have changed. -/
def OnlyReg (d : Reg) (s t : State) : Prop :=
  SameRegsBut d s t ∧ t.sr = s.sr ∧ t.pc = s.pc ∧ SameMem s t ∧ SameRest s t

/-- Nothing but register `d` and the five arithmetic flags may have changed. -/
def OnlyRegAndFlags (d : Reg) (s t : State) : Prop :=
  SameRegsBut d s t ∧ t.sr.i = s.sr.i ∧ t.pc = s.pc ∧ SameMem s t ∧ SameRest s t

/-- Nothing but the `pc` may have changed. -/
def OnlyPc (s t : State) : Prop := SameRegs s t ∧ t.sr = s.sr ∧ SameMem s t ∧ SameRest s t

/-- Nothing but the status register may have changed. -/
def OnlyStatus (s t : State) : Prop := SameRegs s t ∧ t.pc = s.pc ∧ SameMem s t ∧ SameRest s t

/-- Nothing but data memory may have changed, and there only the byte at `a`. -/
def OnlyMem (a : Nat) (s t : State) : Prop :=
  SameMemBut a s t ∧ SameRegs s t ∧ t.sr = s.sr ∧ t.pc = s.pc ∧ SameRest s t

/-- The outcome of an instruction that writes `v` to register `d`, sets the five flags and changes nothing else. -/
def Computes (out : Result) (s : State) (d : Reg) (v : Byte) (flags : Status → Prop) : Prop :=
  ∃ t, out = .next t ∧ t.x d = v ∧ flags t.sr ∧ OnlyRegAndFlags d s t

/-- The outcome of an instruction that writes `v` to register `d` and changes nothing else. -/
def Loads (out : Result) (s : State) (d : Reg) (v : Byte) : Prop :=
  ∃ t, out = .next t ∧ t.x d = v ∧ OnlyReg d s t

/-- The outcome of an instruction that sets the `pc` to `p` and changes nothing else. -/
def Jumps (out : Result) (s : State) (p : Byte) : Prop :=
  ∃ t, out = .next t ∧ t.pc = p ∧ OnlyPc s t

/-- What a push of `v` does to the stack and its indicator (20_memory R60). -/
def PushedOn (v : Byte) (s t : State) : Prop :=
  (s.sp.val ≠ 0 → t.sp.val = s.sp.val - 1 ∧ t.stackByte t.sp.val = v ∧
    (∀ j, j ≠ t.sp.val → t.stackByte j = s.stackByte j) ∧ t.stkOvf = s.stkOvf) ∧
  (s.sp.val = 0 → SameStack s t ∧ t.stkOvf = true)

/-- What a pop that gives `v` does to the stack and its indicator (20_memory R61). -/
def PoppedFrom (v : Byte) (s t : State) : Prop :=
  (s.sp.val ≠ 1024 → v = s.stackByte s.sp.val ∧ t.sp.val = s.sp.val + 1 ∧ t.stkUnf = s.stkUnf) ∧
  (s.sp.val = 1024 → v = 0x00#8 ∧ t.sp = s.sp ∧ t.stkUnf = true) ∧
  ∀ j, t.stackByte j = s.stackByte j

/-- The pointer of the pair whose low register is `p`, as a number (10_state R22). -/
def pointerNat (p : PtrLow) (s : State) : Nat :=
  256 * (s.x ⟨p.val + 1, by omega⟩).toNat + (s.x ⟨p.val, by omega⟩).toNat

/-- The two states differ at most in the sticky indicators. -/
def EqualButIndicators (s t : State) : Prop :=
  t = { s with stkOvf := t.stkOvf, stkUnf := t.stkUnf, memOor := t.memOor }

/-- The two states differ at most in C, V and N. -/
def EqualButCarryOverflowNegative (s t : State) : Prop :=
  t = { s with sr := { s.sr with c := t.sr.c, v := t.sr.v, n := t.sr.n } }

/-- Two outcomes of the same shape: next states related by `R`, or the same stop. -/
def OutcomesRelated (R : State → State → Prop) (a b : Result) : Prop :=
  match a, b with
  | .next s, .next t       => R s t
  | .fault e, .fault f     => e = f
  | .refused e, .refused f => e = f
  | _, _                   => False

/-! ## Which instructions write what -/

/-- The general register an instruction writes, if any (10_state R21). -/
def dest? : Instr → Option Reg
  | .ldi d _ | .mov d _ | .inp d _ | .lds d _ | .clr d | .ori d _ | .andi d _ | .xori d _ | .or d _ | .and d _
  | .xor d _ | .addi d _ | .subi d _ | .add d _ | .sub d _ | .inc d | .dec d | .pop d | .lsl d | .lsr d
  | .ldio d _ | .ld d _ => some d
  | .nop | .out _ _ | .sts _ _ | .cpi _ _ | .cp _ _ | .jmp _ | .breq _ | .brne _ | .brge _ | .brgt _ | .brle _
  | .brlt _ | .call _ | .ret | .reti | .push _ | .sei | .cli | .stio _ _ | .st _ _ => none

/-- The data-memory address an instruction stores to, if it stores (42_io_and_memory R130). -/
def storeAddr? (s : State) : Instr → Option Nat
  | .out a _  => some (ioAddress a)
  | .sts k _  => some (extAddress k)
  | .stio p _ => some (refIoAddress p s)
  | .st p _   => some (refDataAddress p s)
  | .nop | .ldi _ _ | .mov _ _ | .inp _ _ | .lds _ _ | .clr _ | .ori _ _ | .andi _ _ | .xori _ _ | .or _ _
  | .and _ _ | .xor _ _ | .addi _ _ | .subi _ _ | .add _ _ | .sub _ _ | .inc _ | .dec _ | .cpi _ _ | .cp _ _
  | .jmp _ | .breq _ | .brne _ | .brge _ | .brgt _ | .brle _ | .brlt _ | .call _ | .ret | .reti | .push _
  | .pop _ | .lsl _ | .lsr _ | .sei | .cli | .ldio _ _ | .ld _ _ => none

/-- The fourteen instructions that call the ALU (10_state R27). -/
def callsAlu : Instr → Bool
  | .ori _ _ | .andi _ _ | .xori _ _ | .or _ _ | .and _ _ | .xor _ _ | .addi _ _ | .subi _ _ | .add _ _
  | .sub _ _ | .inc _ | .dec _ | .cpi _ _ | .cp _ _ => true
  | .nop | .ldi _ _ | .mov _ _ | .out _ _ | .inp _ _ | .sts _ _ | .lds _ _ | .clr _ | .jmp _ | .breq _
  | .brne _ | .brge _ | .brgt _ | .brle _ | .brlt _ | .call _ | .ret | .reti | .push _ | .pop _ | .lsl _
  | .lsr _ | .sei | .cli | .stio _ _ | .ldio _ _ | .st _ _ | .ld _ _ => false

/-- The instructions that set or clear I (10_state R27). -/
def writesI : Instr → Bool
  | .sei | .cli | .reti => true
  | .nop | .ldi _ _ | .mov _ _ | .out _ _ | .inp _ _ | .sts _ _ | .lds _ _ | .clr _ | .ori _ _ | .andi _ _
  | .xori _ _ | .or _ _ | .and _ _ | .xor _ _ | .addi _ _ | .subi _ _ | .add _ _ | .sub _ _ | .inc _ | .dec _
  | .cpi _ _ | .cp _ _ | .jmp _ | .breq _ | .brne _ | .brge _ | .brgt _ | .brle _ | .brlt _ | .call _ | .ret
  | .push _ | .pop _ | .lsl _ | .lsr _ | .stio _ _ | .ldio _ _ | .st _ _ | .ld _ _ => false

/-- The instructions that use the stack (20_memory R59). -/
def usesStack : Instr → Bool
  | .push _ | .pop _ | .call _ | .ret | .reti => true
  | .nop | .ldi _ _ | .mov _ _ | .out _ _ | .inp _ _ | .sts _ _ | .lds _ _ | .clr _ | .ori _ _ | .andi _ _
  | .xori _ _ | .or _ _ | .and _ _ | .xor _ _ | .addi _ _ | .subi _ _ | .add _ _ | .sub _ _ | .inc _ | .dec _
  | .cpi _ _ | .cp _ _ | .jmp _ | .breq _ | .brne _ | .brge _ | .brgt _ | .brle _ | .brlt _ | .lsl _ | .lsr _
  | .sei | .cli | .stio _ _ | .ldio _ _ | .st _ _ | .ld _ _ => false

/-- The control transfer instructions, which may write the `pc` (10_state R25). -/
def isTransfer : Instr → Bool
  | .jmp _ | .breq _ | .brne _ | .brge _ | .brgt _ | .brle _ | .brlt _ | .call _ | .ret | .reti => true
  | .nop | .ldi _ _ | .mov _ _ | .out _ _ | .inp _ _ | .sts _ _ | .lds _ _ | .clr _ | .ori _ _ | .andi _ _
  | .xori _ _ | .or _ _ | .and _ _ | .xor _ _ | .addi _ _ | .subi _ _ | .add _ _ | .sub _ _ | .inc _ | .dec _
  | .cpi _ _ | .cp _ _ | .push _ | .pop _ | .lsl _ | .lsr _ | .sei | .cli | .stio _ _ | .ldio _ _ | .st _ _
  | .ld _ _ => false

/-! ## The invariant and safe runs -/

/-- What holds at reset and after every move of the host: the three stores keep their canonical form and their bounds, S is
N xor V (10_state R27), and the control state is one of the three named (10_state R34). -/
abbrev State.Inv (s : State) : Prop :=
  Cells.Wf dmemSize s.dmem ∧ Cells.Wf stackCap s.stack ∧ Cells.Wf progSize s.prog ∧
    s.sr.s = (s.sr.n ^^ s.sr.v) ∧ s.phase ≠ .invalid

/-- The word holds no reserved encoding (30_encoding R87, R88); an unrecognized opcode is none (70 R266). -/
def wordAdmitted (cfg : Config) (w : Word24) : Bool :=
  match decode w with
  | .instr i            => i.wellFormed cfg
  | .unrecognized _     => true
  | .reservedRegister _ => false
  | .reservedPointer _  => false

/-- The loaded program holds no reserved encoding in any cell (70 R266). -/
def ProgramAdmitted (s : State) : Prop := ∀ a : Byte, wordAdmitted s.cfg (progRead s a) = true

/-- No indicator is set: nothing has silently degraded (10_state R36; 70 R274). -/
abbrev State.Clean (s : State) : Prop := s.stkOvf = false ∧ s.stkUnf = false ∧ s.memOor = false

/-- The end of a run by the spec's convention: about to fetch a jump to itself (40_control_unit R108). The core goes on
executing it. -/
def AtSelfJump (s : State) : Prop := s.phase = .fetch ∧ decode (progRead s s.pc) = .instr (.jmp s.pc)

/-! ## The stack as a list -/

/-- The live bytes, the most recent first (20_memory R63). -/
def liveStack (s : State) : List Byte :=
  (List.range s.depth).map fun k => s.stackByte (s.sp.val + k)

/-- Push the bytes of a list in order. -/
def pushAll (vs : List Byte) (s : State) : State :=
  match vs with
  | []      => s
  | v :: vs => pushAll vs (push v s)

/-- Pop n bytes, in the order they come. -/
def popMany (n : Nat) (s : State) : List Byte × State :=
  match n with
  | 0     => ([], s)
  | n + 1 => ((pop s).1 :: (popMany n (pop s).2).1, (popMany n (pop s).2).2)

/-! ## Exact arithmetic -/

/-- The five flags after an addition of a and b (43_alu R153, R155). -/
def AddFlags (a b : Byte) (f : Status) : Prop :=
  f.c = decide (256 ≤ a.toNat + b.toNat) ∧
  f.v = decide (a.toInt + b.toInt < -128 ∨ 127 < a.toInt + b.toInt) ∧
  f.z = decide (a + b = 0#8) ∧
  f.n = (a + b).msb ∧
  f.s = decide (a.toInt + b.toInt < 0)

/-- The five flags after a subtraction a - b, a compare among them (43_alu R154, R155). -/
def SubFlags (a b : Byte) (f : Status) : Prop :=
  f.c = decide (b.toNat ≤ a.toNat) ∧
  f.v = decide (a.toInt - b.toInt < -128 ∨ 127 < a.toInt - b.toInt) ∧
  f.z = decide (a = b) ∧
  f.n = (a - b).msb ∧
  f.s = decide (a.toInt < b.toInt)

/-- The five flags after OR, AND or XOR with result r (43_alu R151, R155). -/
def LogicFlags (r : Byte) (f : Status) : Prop :=
  f.c = false ∧ f.v = false ∧ f.z = decide (r = 0#8) ∧ f.n = r.msb ∧ f.s = r.msb

/-! ## Encodings -/

/-- Opcode o, both operand bytes unused. -/
def EncodesNone (o : Byte) (i : Instr) : Prop := ∀ a b, decode (packWord o a b) = .instr i

/-- Opcode o, a register in operand1, a plain byte in operand2; register fields above 31 reserved. -/
def EncodesRegByte (o : Byte) (f : Reg → Byte → Instr) : Prop :=
  (∀ d k, decode (packWord o (regByte d) k) = .instr (f d k)) ∧
  ∀ b k, 32 ≤ b.toNat → decode (packWord o b k) = .reservedRegister b

/-- Opcode o, a plain byte in operand1, a register in operand2; register fields above 31 reserved. -/
def EncodesByteReg (o : Byte) (f : Byte → Reg → Instr) : Prop :=
  (∀ a r, decode (packWord o a (regByte r)) = .instr (f a r)) ∧
  ∀ a b, 32 ≤ b.toNat → decode (packWord o a b) = .reservedRegister b

/-- Opcode o, registers in both operands; register fields above 31 reserved. -/
def EncodesRegReg (o : Byte) (f : Reg → Reg → Instr) : Prop :=
  (∀ d r, decode (packWord o (regByte d) (regByte r)) = .instr (f d r)) ∧
  (∀ b k, 32 ≤ b.toNat → decode (packWord o b k) = .reservedRegister b) ∧
  ∀ d b, 32 ≤ b.toNat → decode (packWord o (regByte d) b) = .reservedRegister b

/-- Opcode o, a register in operand1, operand2 unused; register fields above 31 reserved. -/
def EncodesReg (o : Byte) (f : Reg → Instr) : Prop :=
  (∀ d x, decode (packWord o (regByte d) x) = .instr (f d)) ∧
  ∀ b x, 32 ≤ b.toNat → decode (packWord o b x) = .reservedRegister b

/-- Opcode o, a plain byte in operand1, operand2 unused. -/
def EncodesByte (o : Byte) (f : Byte → Instr) : Prop := ∀ t x, decode (packWord o t x) = .instr (f t)

/-- Opcode o, a pointer in operand1, a register in operand2; register fields above 31 reserved. -/
def EncodesPtrReg (o : Byte) (f : PtrLow → Reg → Instr) : Prop :=
  (∀ p r, decode (packWord o (ptrByte p) (regByte r)) = .instr (f p r)) ∧
  (∀ b k, 31 ≤ b.toNat → decode (packWord o b k) = .reservedPointer b) ∧
  ∀ p b, 32 ≤ b.toNat → decode (packWord o (ptrByte p) b) = .reservedRegister b

/-- Opcode o, a register in operand1, a pointer in operand2; register fields above 31 reserved. -/
def EncodesRegPtr (o : Byte) (f : Reg → PtrLow → Instr) : Prop :=
  (∀ d p, decode (packWord o (regByte d) (ptrByte p)) = .instr (f d p)) ∧
  (∀ b k, 32 ≤ b.toNat → decode (packWord o b k) = .reservedRegister b) ∧
  ∀ d b, 31 ≤ b.toNat → decode (packWord o (regByte d) b) = .reservedPointer b

end Sys2Proof.Machine
end

