-- ==== Sys2Proof/Certificates/Slice0/Obligations.lean ====
section
/-! DEFINITION. The statements for the provers, each about every state (or every word) of the machine. The docstring names
the rule of spec/ a statement formalises; a witness for each statement with hypotheses is in Sys2Proof/Tests/Slice0.lean. -/

open Sys2Proof Sys2Proof.Machine

/-! ## Reset -/

/-- 70 R260: a full reset puts every element of the state at its reset value, keeps `PROG`, and is idempotent; the host's
reset is that reset, and power-up and the model's start state are left unchanged by one. -/
def Obligations.FullResetLeavesTheResetTable : Prop :=
  (∀ s : State, ∃ t, t = engineReset s ∧
    (∀ r, t.x r = 0x00#8) ∧ t.pc = 0x00#8 ∧ t.sr.toByte = 0x00#8 ∧ t.phase = .fetch ∧ t.ir = 0#24 ∧ t.opc = 0#8 ∧
    t.op1 = 0#8 ∧ t.op2 = 0#8 ∧ t.cia = 0#8 ∧ (∀ a, t.byteAt a = 0x00#8) ∧ (∀ j, t.stackByte j = 0x00#8) ∧
    t.sp.val = 1024 ∧ (∀ n, t.latch n = 0x00#8) ∧ t.stkOvf = false ∧ t.stkUnf = false ∧ t.memOor = false ∧
    t.prog = s.prog ∧ t.cfg = s.cfg) ∧
  (∀ s : State, engineReset (engineReset s) = engineReset s) ∧
  (∀ s : State, hostMove .reset s = .next (engineReset s)) ∧
  (∀ cfg image, powerUp cfg image = engineReset (powerUp cfg image)) ∧
  State.reset = engineReset State.reset

/-- 60_exceptions R231, 40_control_unit R105, 30_encoding R86: an opcode of 0x2A or more leaves exactly the reset state, by
one transition from EXECUTE and by one whole instruction from FETCH. -/
def Obligations.UnrecognizedOpcodeForcesFullReset : Prop :=
  (∀ s : State, s.phase = .execute → 0x2A ≤ s.opc.toNat → transition s = .next (engineReset s)) ∧
  (∀ s : State, s.phase = .fetch → 0x2A ≤ (wordOpcode (progRead s s.pc)).toNat → step s = .next (engineReset s))

/-- 60_exceptions R232, 40_control_unit R109: the invalid control state forces a full reset and nothing else. -/
def Obligations.InvalidControlStateForcesFullReset : Prop :=
  ∀ s : State, s.phase = .invalid → transition s = .next (engineReset s) ∧ step s = .next (engineReset s)

/-- 20_memory R51; 70 R266: after the loader has written the cells of a list, each address once, a fetch reads the low 24
bits of the storage cell written there, and 0x000000, which is NOP, where none was written. -/
def Obligations.FetchReadsTheLoadedCells : Prop :=
  ∀ (cfg : Config) (cells : List (Byte × BitVec 32)) (a : Byte),
    (cells.Pairwise fun c d => c.1 ≠ d.1) →
    (∀ v, (a, v) ∈ cells → (progRead (powerUp cfg (loadImage cells)) a).toNat = v.toNat % 2 ^ 24) ∧
    ((∀ v, (a, v) ∉ cells) → progRead (powerUp cfg (loadImage cells)) a = 0x000000#24)

/-- 10_state R26: the status byte is C(0), V(1), Z(2), N(3), S(4), I(5), bits 7..6 at 0, and holds all of the register. -/
def Obligations.StatusByteLayout : Prop :=
  ∀ f : Status,
    f.toByte.getLsbD 0 = f.c ∧ f.toByte.getLsbD 1 = f.v ∧ f.toByte.getLsbD 2 = f.z ∧ f.toByte.getLsbD 3 = f.n ∧
    f.toByte.getLsbD 4 = f.s ∧ f.toByte.getLsbD 5 = f.i ∧ f.toByte.getLsbD 6 = false ∧ f.toByte.getLsbD 7 = false ∧
    Status.ofByte f.toByte = f

/-! ## The control unit -/

/-- 40_control_unit R101: FETCH reads the word, records the address, increments the counter modulo 256, moves to DECODE and
changes nothing else. -/
def Obligations.FetchReadsRecordsAndIncrements : Prop :=
  ∀ s : State, s.phase = .fetch → ∃ t, transition s = .next t ∧
    t.ir = progRead s s.pc ∧ t.cia = s.pc ∧ t.pc.toNat = (s.pc.toNat + 1) % 256 ∧ t.phase = .decode ∧
    t.opc = s.opc ∧ t.op1 = s.op1 ∧ t.op2 = s.op2 ∧ SameRegs s t ∧ t.sr = s.sr ∧ SameMem s t ∧ SameStack s t ∧
    SameIndicators s t ∧ t.prev = s.prev ∧ t.prog = s.prog ∧ t.cfg = s.cfg

/-- 40_control_unit R102, 30_encoding R81: DECODE splits the word into opcode (bits 23..16), operand1 (15..8) and operand2
(7..0), moves to EXECUTE and changes nothing else. -/
def Obligations.DecodeSplitsTheWord : Prop :=
  (∀ s : State, s.phase = .decode → ∃ t, transition s = .next t ∧
    t.opc.toNat = s.ir.toNat / 65536 ∧ t.op1.toNat = s.ir.toNat / 256 % 256 ∧ t.op2.toNat = s.ir.toNat % 256 ∧
    t.phase = .execute ∧ t.ir = s.ir ∧ t.cia = s.cia ∧ t.pc = s.pc ∧ SameRegs s t ∧ t.sr = s.sr ∧ SameMem s t ∧
    SameStack s t ∧ SameIndicators s t ∧ t.prev = s.prev ∧ t.prog = s.prog ∧ t.cfg = s.cfg) ∧
  (∀ o a b : Byte, (packWord o a b).toNat = o.toNat * 65536 + a.toNat * 256 + b.toNat)

/-- 40_control_unit R103, R104: where the word at the `pc` decodes to `i`, a step is `exec i` on the fetched and decoded
state, then `state <- FETCH`, the interrupt check and the three monitors in order; a stop of `exec` is the step's. EXECUTE
alone does the same from its own latches. -/
def Obligations.StepRunsTheDecodedInstruction : Prop :=
  (∀ (s : State) (i : Instr), s.phase = .fetch → decode (progRead s s.pc) = .instr i →
    ∃ u : State, u.ir = progRead s s.pc ∧ u.cia = s.pc ∧ u.pc = s.pc + 1#8 ∧ u.phase = .execute ∧
      u.opc = wordOpcode u.ir ∧ u.op1 = wordOperand1 u.ir ∧ u.op2 = wordOperand2 u.ir ∧ u.regs = s.regs ∧
      u.sr = s.sr ∧ u.dmem = s.dmem ∧ u.stack = s.stack ∧ u.sp = s.sp ∧ SameIndicators s u ∧ u.prev = s.prev ∧
      u.prog = s.prog ∧ u.cfg = s.cfg ∧
      step s = andThen (exec i u) fun t =>
        .next (monitor 2 (monitor 1 (monitor 0 (checkInterrupt (t.setPhase .fetch)))))) ∧
  (∀ (s : State) (i : Instr), s.phase = .execute → decodeFields s.opc s.op1 s.op2 = .instr i →
    transition s = andThen (exec i s) fun t =>
      .next (monitor 2 (monitor 1 (monitor 0 (checkInterrupt (t.setPhase .fetch))))))

/-- 40_control_unit R106: one instruction from FETCH is three transitions; in DECODE and EXECUTE it is refused. -/
def Obligations.RunInstructionIsThreeTransitions : Prop :=
  (∀ s : State, s.phase = .fetch →
    step s = andThen (transition s) fun t => andThen (transition t) fun u => transition u) ∧
  (∀ s : State, s.phase = .decode ∨ s.phase = .execute → step s = .refused .midInstruction) ∧
  (∀ s : State, hostMove .runInstruction s = step s)

/-- 10_state R34, 40_control_unit R100: FETCH to DECODE to EXECUTE to FETCH, and no transition faults or reaches the invalid
control state; FETCH and DECODE always complete, EXECUTE completes unless an encoding is reserved. -/
def Obligations.TransitionsCycleThroughThreeStates : Prop :=
  (∀ s : State, s.phase = .fetch → ∃ t, transition s = .next t ∧ t.phase = .decode) ∧
  (∀ s : State, s.phase = .decode → ∃ t, transition s = .next t ∧ t.phase = .execute) ∧
  (∀ s t : State, s.phase = .execute → transition s = .next t → t.phase = .fetch) ∧
  (∀ s : State, s.phase = .execute → wordAdmitted s.cfg (packWord s.opc s.op1 s.op2) = true →
    ∃ t, transition s = .next t) ∧
  (∀ (s : State) (e : Fault), transition s ≠ .fault e)

/-- 40_control_unit R104, 70 R266: while the loaded program holds no reserved encoding, a step from FETCH always answers a
next state, again in FETCH, with the same program and parameters, so the machine never stops. -/
def Obligations.WellFormedProgramNeverStops : Prop :=
  ∀ s : State, s.phase = .fetch → ProgramAdmitted s →
    ∃ t, step s = .next t ∧ t.phase = .fetch ∧ t.prog = s.prog ∧ t.cfg = s.cfg ∧ ProgramAdmitted t

/-- 10_state R27, R34; 20_memory R53, R59: every step keeps the stores canonical and inside their bounds, S equal to
N xor V, and the control state one of the three. -/
def Obligations.StepKeepsTheInvariant : Prop :=
  ∀ s t : State, s.Inv → step s = .next t → t.Inv

/-- 10_state R27, R41: the state after reset meets the invariant, and so does every power-up with a canonical program. -/
def Obligations.ResetMeetsTheInvariant : Prop :=
  State.reset.Inv ∧ ∀ (cfg : Config) (cells : List (Byte × BitVec 32)), (powerUp cfg (loadImage cells)).Inv

/-- 70 R267: every move of the host, single transitions and pin writes among them, and so every run of moves, keeps the
invariant. -/
def Obligations.HostRunsKeepTheInvariant : Prop :=
  ∀ (ms : List HostMove) (s t : State), s.Inv → hostRun ms s = .next t → t.Inv

/-- 20_memory R52, R71; 10_state R40: no move of the host and so no instruction, interrupt or reset ever writes the program
or the parameters. -/
def Obligations.ProgramIsNeverWritten : Prop :=
  ∀ (ms : List HostMove) (s t : State), hostRun ms s = .next t → t.prog = s.prog ∧ t.cfg = s.cfg

/-- 10_state R25, 30_encoding R90: an instruction that is no control transfer leaves the `pc` alone, so that a step that
services nothing ends at the next address modulo 256. -/
def Obligations.PcAdvancesByOneWithoutTransfer : Prop :=
  (∀ (i : Instr) (s t : State), isTransfer i = false → exec i s = .next t → t.pc = s.pc) ∧
  (∀ (s : State) (i : Instr) (t : State), s.phase = .fetch → decode (progRead s s.pc) = .instr i →
    isTransfer i = false → exec i (fetchDecode s) = .next t → accepted (t.setPhase .fetch) = none →
    ∃ u, step s = .next u ∧ u.pc.toNat = (s.pc.toNat + 1) % 256)

/-- 10_state R33, R35: what `ir`, `opc`, `op1`, `op2` and `cia` hold before a FETCH changes no step. -/
def Obligations.DecodeLatchesAreNeverObserved : Prop :=
  ∀ (s : State) (ir : Word24) (opc op1 op2 cia : Byte), s.phase = .fetch →
    step { s with ir := ir, opc := opc, op1 := op1, op2 := op2, cia := cia } = step s

/-- 10_state R36: the sticky indicators influence nothing but themselves, and only a full reset clears one: an instruction
and the tail of EXECUTE never do. -/
def Obligations.IndicatorsInfluenceNothing : Prop :=
  (∀ s s' : State, EqualButIndicators s s' → OutcomesRelated EqualButIndicators (step s) (step s')) ∧
  (∀ (i : Instr) (s t : State), exec i s = .next t →
    (s.stkOvf = true → t.stkOvf = true) ∧ (s.stkUnf = true → t.stkUnf = true) ∧
    (s.memOor = true → t.memOor = true)) ∧
  (∀ s : State, (s.stkOvf = true → (executeTail s).stkOvf = true) ∧ (executeTail s).stkUnf = s.stkUnf ∧
    (executeTail s).memOor = s.memOor)

/-- 10_state R27: no instruction and no interrupt rule reads C, V or N: two states that differ only there step to states
that differ at most there. -/
def Obligations.CarryOverflowNegativeInfluenceNothing : Prop :=
  ∀ s s' : State, EqualButCarryOverflowNegative s s' →
    OutcomesRelated EqualButCarryOverflowNegative (step s) (step s')

/-! ## What each instruction leaves alone -/

/-- 10_state R21: an instruction changes no general register but its destination. -/
def Obligations.OnlyDestinationRegistersChange : Prop :=
  ∀ (i : Instr) (s t : State), exec i s = .next t → ∀ r, dest? i ≠ some r → t.x r = s.x r

/-- 42_io_and_memory R130: an instruction changes no byte of data memory but the one its store addresses. -/
def Obligations.OnlyStoresChangeDataMemory : Prop :=
  ∀ (i : Instr) (s t : State), exec i s = .next t → ∀ a, storeAddr? s i ≠ some a → t.byteAt a = s.byteAt a

/-- 20_memory R59: only PUSH, POP, CALL, RET and RETI touch the stack, its pointer and its two indicators. -/
def Obligations.OnlyStackInstructionsTouchTheStack : Prop :=
  ∀ (i : Instr) (s t : State), usesStack i = false → exec i s = .next t →
    SameStack s t ∧ t.stkOvf = s.stkOvf ∧ t.stkUnf = s.stkUnf

/-- 10_state R33, R35, R37; 20_memory R52: no instruction's dispatch touches the control unit's latches, the interrupt
latches, the program or the parameters. -/
def Obligations.NoInstructionTouchesTheLatches : Prop :=
  ∀ (i : Instr) (s t : State), exec i s = .next t → SameControl s t

/-- 10_state R27: who writes which bit of the status register: the ALU instructions the five flags and not I, SEI and RETI
set I, CLI clears it, servicing clears it, reset clears all, nothing else writes any. -/
def Obligations.StatusRegisterHasOnlyItsWriters : Prop :=
  (∀ (i : Instr) (s t : State), exec i s = .next t →
    (callsAlu i = false → SameArithmeticFlags s t) ∧ (writesI i = false → t.sr.i = s.sr.i)) ∧
  (∀ s : State, ∃ t, exec .sei s = .next t ∧ t.sr.i = true) ∧
  (∀ s : State, ∃ t, exec .cli s = .next t ∧ t.sr.i = false) ∧
  (∀ s : State, ∃ t, exec .reti s = .next t ∧ t.sr.i = true) ∧
  (∀ (n : Source) (s : State), (service n s).sr.i = false ∧ SameArithmeticFlags s (service n s)) ∧
  (∀ (n : Source) (s : State), (monitor n s).sr = s.sr) ∧
  (∀ s : State, (engineReset s).sr.toByte = 0x00#8)

/-! ## Data movement -/

/-- 41_data_movement R120: every word 0x00xxxx is NOP, an unprogrammed cell among them; NOP's dispatch changes nothing at all;
the cycle as a whole advances the `pc` and runs the interrupt check and the monitors. -/
def Obligations.NopChangesNothing : Prop :=
  EncodesNone 0x00#8 .nop ∧ decode 0x000000#24 = .instr .nop ∧ (∀ s : State, exec .nop s = .next s) ∧
  ∀ s : State, s.phase = .fetch → wordOpcode (progRead s s.pc) = 0x00#8 →
    ∃ u : State, u.pc = s.pc + 1#8 ∧ SameRegs s u ∧ u.sr = s.sr ∧ SameMem s u ∧ SameStack s u ∧ SameIndicators s u ∧
      u.prev = s.prev ∧ u.prog = s.prog ∧ u.cfg = s.cfg ∧ u.phase = .fetch ∧
      step s = .next (monitor 2 (monitor 1 (monitor 0 (checkInterrupt u))))

/-- 41_data_movement R121, R122, R123: LDI, MOV and CLR write one register, for every register, and no flag. -/
def Obligations.LdiMovClrWriteOneRegister : Prop :=
  EncodesRegByte 0x01#8 .ldi ∧ EncodesRegReg 0x02#8 .mov ∧ EncodesReg 0x07#8 .clr ∧
  ∀ (s : State) (d : Reg),
    (∀ k, Loads (exec (.ldi d k) s) s d k) ∧
    (∀ r, Loads (exec (.mov d r) s) s d (s.x r)) ∧
    Loads (exec (.clr d) s) s d 0x00#8

/-! ## Data memory instructions -/

/-- 42_io_and_memory R132, R134: IN loads the byte at A, LDS the byte at k + 256; nothing else changes. -/
def Obligations.InAndLdsLoadOneByte : Prop :=
  EncodesRegByte 0x04#8 .inp ∧ EncodesRegByte 0x06#8 .lds ∧
  ∀ (s : State) (d : Reg) (k : Byte),
    Loads (exec (.inp d k) s) s d (s.byteAt k.toNat) ∧
    Loads (exec (.lds d k) s) s d (s.byteAt (k.toNat + 256))

/-- 42_io_and_memory R131, R133: OUT stores to A, STS to k + 256; every other byte and everything else is unchanged. -/
def Obligations.OutAndStsStoreOneByte : Prop :=
  EncodesByteReg 0x03#8 .out ∧ EncodesByteReg 0x05#8 .sts ∧
  ∀ (s : State) (k : Byte) (r : Reg),
    (ioAddress k = k.toNat ∧ ∃ t, exec (.out k r) s = .next t ∧ t.byteAt (ioAddress k) = s.x r ∧
      OnlyMem (ioAddress k) s t) ∧
    (extAddress k = k.toNat + 256 ∧ ∃ t, exec (.sts k r) s = .next t ∧ t.byteAt (extAddress k) = s.x r ∧
      OnlyMem (extAddress k) s t)

/-- 42_io_and_memory R136, R138, 20_memory R54: LDIO loads from the pointer, LD from the pointer plus 256, the pointer read
before the destination is written; an address of 2000 or more loads 0x00 and marks `mem_oor`; a pointer field that names no
designated pair is refused. -/
def Obligations.LdioAndLdLoadThroughThePointer : Prop :=
  EncodesRegPtr 0x27#8 .ldio ∧ EncodesRegPtr 0x29#8 .ld ∧
  ∀ (s : State) (d : Reg) (p : PtrLow),
    (p = s.cfg.ptrALo ∨ p = s.cfg.ptrBLo →
      (∃ t, exec (.ldio d p) s = .next t ∧ t.x d = s.byteAt (pointerNat p s) ∧
        (2000 ≤ pointerNat p s → t.x d = 0x00#8) ∧
        t.memOor = (s.memOor || decide (2000 ≤ pointerNat p s)) ∧
        SameRegsBut d s t ∧ t.sr = s.sr ∧ t.pc = s.pc ∧ SameMem s t ∧ SameStack s t ∧ t.stkOvf = s.stkOvf ∧
        t.stkUnf = s.stkUnf ∧ SameControl s t) ∧
      (∃ t, exec (.ld d p) s = .next t ∧ t.x d = s.byteAt (pointerNat p s + 256) ∧
        (2000 ≤ pointerNat p s + 256 → t.x d = 0x00#8) ∧
        t.memOor = (s.memOor || decide (2000 ≤ pointerNat p s + 256)) ∧
        SameRegsBut d s t ∧ t.sr = s.sr ∧ t.pc = s.pc ∧ SameMem s t ∧ SameStack s t ∧ t.stkOvf = s.stkOvf ∧
        t.stkUnf = s.stkUnf ∧ SameControl s t)) ∧
    (p ≠ s.cfg.ptrALo → p ≠ s.cfg.ptrBLo →
      exec (.ldio d p) s = .refused (.reservedPointer (ptrByte p)) ∧
      exec (.ld d p) s = .refused (.reservedPointer (ptrByte p)))

/-- 42_io_and_memory R135, R137, 20_memory R55, R57: STIO stores to the pointer, ST to the pointer plus 256 as an exact
sum; an address of 2000 or more stores nothing and marks `mem_oor`; a pointer field that names no designated pair is
refused. -/
def Obligations.StioAndStStoreThroughThePointer : Prop :=
  EncodesPtrReg 0x26#8 .stio ∧ EncodesPtrReg 0x28#8 .st ∧
  ∀ (s : State) (p : PtrLow) (r : Reg),
    refIoAddress p s = pointerNat p s ∧ refDataAddress p s = pointerNat p s + 256 ∧
    (p = s.cfg.ptrALo ∨ p = s.cfg.ptrBLo →
      (∃ t, exec (.stio p r) s = .next t ∧
        (refIoAddress p s < 2000 → t.byteAt (refIoAddress p s) = s.x r) ∧
        (2000 ≤ refIoAddress p s → SameMem s t) ∧ SameMemBut (refIoAddress p s) s t ∧
        t.memOor = (s.memOor || decide (2000 ≤ refIoAddress p s)) ∧
        SameRegs s t ∧ t.sr = s.sr ∧ t.pc = s.pc ∧ SameStack s t ∧ t.stkOvf = s.stkOvf ∧ t.stkUnf = s.stkUnf ∧
        SameControl s t) ∧
      (∃ t, exec (.st p r) s = .next t ∧
        (refDataAddress p s < 2000 → t.byteAt (refDataAddress p s) = s.x r) ∧
        (2000 ≤ refDataAddress p s → SameMem s t) ∧ SameMemBut (refDataAddress p s) s t ∧
        t.memOor = (s.memOor || decide (2000 ≤ refDataAddress p s)) ∧
        SameRegs s t ∧ t.sr = s.sr ∧ t.pc = s.pc ∧ SameStack s t ∧ t.stkOvf = s.stkOvf ∧ t.stkUnf = s.stkUnf ∧
        SameControl s t)) ∧
    (p ≠ s.cfg.ptrALo → p ≠ s.cfg.ptrBLo →
      exec (.stio p r) s = .refused (.reservedPointer (ptrByte p)) ∧
      exec (.st p r) s = .refused (.reservedPointer (ptrByte p)))

/-- 20_memory R54, R55: a byte written in range is read back, no other byte changes and `mem_oor` stays as it was; out of
range nothing is written, 0x00 is read, and only `mem_oor` is marked. -/
def Obligations.DataMemoryReadsBackWrites : Prop :=
  (∀ (s : State) (a : Nat) (v : Byte), a ≤ 1999 →
    (memRead a (memWrite a v s)).1 = v ∧ SameMemBut a s (memWrite a v s) ∧ (memWrite a v s).memOor = s.memOor ∧
    (memRead a s).2 = s) ∧
  (∀ (s : State) (a : Nat) (v : Byte), 2000 ≤ a →
    (memRead a s).1 = 0x00#8 ∧ SameMem s (memWrite a v s) ∧
    memWrite a v s = { s with memOor := true } ∧ (memRead a s).2 = { s with memOor := true })

/-- 20_memory R56: setting or clearing one bit of a cell keeps its other seven bits and every other cell. -/
def Obligations.BitOperationsTouchOneBit : Prop :=
  ∀ (s : State) (a b : Nat), a ≤ 1999 → b < 8 →
    (∀ j, j < 8 → ((memSetBit a b s).byteAt a).getLsbD j = (decide (j = b) || (s.byteAt a).getLsbD j)) ∧
    (∀ j, j < 8 → ((memClearBit a b s).byteAt a).getLsbD j = (decide (j ≠ b) && (s.byteAt a).getLsbD j)) ∧
    SameMemBut a s (memSetBit a b s) ∧ SameMemBut a s (memClearBit a b s) ∧
    (memSetBit a b s).memOor = s.memOor ∧ (memClearBit a b s).memOor = s.memOor

/-- 20_memory R53, R54 (the model's own representation, log entry 21): two canonical stores that read alike at every
address are the same data. -/
def Obligations.CanonicalStoresWithEqualReadsAreEqual : Prop :=
  ∀ (w bound : Nat) (m n : Cells w), Cells.Wf bound m → Cells.Wf bound n →
    (∀ a, cellAt m a = cellAt n a) → m = n

/-! ## Arithmetic and logic -/

/-- 43_alu R151, R157 to R162: the six logic instructions compute the bitwise result, clear C and V, set N, Z and S = N, keep
I and change nothing else. -/
def Obligations.LogicInstructionsComputeBitwise : Prop :=
  EncodesRegByte 0x08#8 .ori ∧ EncodesRegByte 0x09#8 .andi ∧ EncodesRegByte 0x0A#8 .xori ∧
  EncodesRegReg 0x0B#8 .or ∧ EncodesRegReg 0x0C#8 .and ∧ EncodesRegReg 0x0D#8 .xor ∧
  ∀ (s : State) (d : Reg),
    (∀ k, Computes (exec (.ori d k) s) s d (s.x d ||| k) (LogicFlags (s.x d ||| k)) ∧
      Computes (exec (.andi d k) s) s d (s.x d &&& k) (LogicFlags (s.x d &&& k)) ∧
      Computes (exec (.xori d k) s) s d (s.x d ^^^ k) (LogicFlags (s.x d ^^^ k))) ∧
    (∀ r, Computes (exec (.or d r) s) s d (s.x d ||| s.x r) (LogicFlags (s.x d ||| s.x r)) ∧
      Computes (exec (.and d r) s) s d (s.x d &&& s.x r) (LogicFlags (s.x d &&& s.x r)) ∧
      Computes (exec (.xor d r) s) s d (s.x d ^^^ s.x r) (LogicFlags (s.x d ^^^ s.x r)))

/-- 43_alu R153, R155, R163, R165, R167: ADDI, ADD and INC give the sum modulo 256; C iff the sum reaches 256; V iff the
signed sum leaves -128..127; S iff the exact signed sum is negative; N and Z of the byte. -/
def Obligations.AdditionsAreExact : Prop :=
  EncodesRegByte 0x0E#8 .addi ∧ EncodesRegReg 0x10#8 .add ∧ EncodesReg 0x12#8 .inc ∧
  ∀ (s : State) (d : Reg),
    (∀ k, Computes (exec (.addi d k) s) s d (BitVec.ofNat 8 ((s.x d).toNat + k.toNat)) (AddFlags (s.x d) k)) ∧
    (∀ r, Computes (exec (.add d r) s) s d (BitVec.ofNat 8 ((s.x d).toNat + (s.x r).toNat))
      (AddFlags (s.x d) (s.x r))) ∧
    Computes (exec (.inc d) s) s d (BitVec.ofNat 8 ((s.x d).toNat + 1)) (AddFlags (s.x d) 0x01#8)

/-- 43_alu R154, R155, R164, R166, R168: SUBI, SUB and DEC give the difference modulo 256; C iff a >= b unsigned, also for
b = 0; V iff the signed difference leaves -128..127; S iff a < b signed; N and Z of the byte. -/
def Obligations.SubtractionsAreExact : Prop :=
  EncodesRegByte 0x0F#8 .subi ∧ EncodesRegReg 0x11#8 .sub ∧ EncodesReg 0x13#8 .dec ∧
  ∀ (s : State) (d : Reg),
    (∀ k, Computes (exec (.subi d k) s) s d (BitVec.ofInt 8 ((s.x d).toNat - k.toNat)) (SubFlags (s.x d) k)) ∧
    (∀ r, Computes (exec (.sub d r) s) s d (BitVec.ofInt 8 ((s.x d).toNat - (s.x r).toNat))
      (SubFlags (s.x d) (s.x r))) ∧
    Computes (exec (.dec d) s) s d (BitVec.ofInt 8 ((s.x d).toNat - 1)) (SubFlags (s.x d) 0x01#8)

/-- 43_alu R169, R170: CPI and CP set all five flags as the subtraction does and write nothing else. -/
def Obligations.ComparesWriteOnlyFlags : Prop :=
  EncodesRegByte 0x14#8 .cpi ∧ EncodesRegReg 0x15#8 .cp ∧
  ∀ (s : State) (d : Reg),
    (∀ k, ∃ t, exec (.cpi d k) s = .next t ∧ SubFlags (s.x d) k t.sr ∧ t.sr.i = s.sr.i ∧ OnlyStatus s t) ∧
    (∀ r, ∃ t, exec (.cp d r) s = .next t ∧ SubFlags (s.x d) (s.x r) t.sr ∧ t.sr.i = s.sr.i ∧ OnlyStatus s t)

/-- 43_alu R156: after CP or CPI of a with b, the six branches are taken exactly on a = b, a ≠ b, a ≥ b, a > b, a ≤ b and
a < b, signed, also when the subtraction overflows. -/
def Obligations.BranchesAfterCompareAreSigned : Prop :=
  ∀ (s : State) (c : Instr) (a b : Byte) (t : Byte),
    ((∃ d k, c = .cpi d k ∧ a = s.x d ∧ b = k) ∨ (∃ d r, c = .cp d r ∧ a = s.x d ∧ b = s.x r)) →
    ∃ u, exec c s = .next u ∧
      Jumps (exec (.breq t) u) u (if a = b then t else u.pc) ∧
      Jumps (exec (.brne t) u) u (if a = b then u.pc else t) ∧
      Jumps (exec (.brge t) u) u (if b.toInt ≤ a.toInt then t else u.pc) ∧
      Jumps (exec (.brgt t) u) u (if b.toInt < a.toInt then t else u.pc) ∧
      Jumps (exec (.brle t) u) u (if a.toInt ≤ b.toInt then t else u.pc) ∧
      Jumps (exec (.brlt t) u) u (if a.toInt < b.toInt then t else u.pc)

/-! ## Control transfer -/

/-- 44_control_transfer R181 to R187: JMP goes to its target; each branch does exactly when its flags say so, and otherwise
leaves the next sequential address; no flag is written. -/
def Obligations.JumpAndBranchesSetOnlyThePc : Prop :=
  EncodesByte 0x16#8 .jmp ∧ EncodesByte 0x17#8 .breq ∧ EncodesByte 0x18#8 .brne ∧ EncodesByte 0x19#8 .brge ∧
  EncodesByte 0x1A#8 .brgt ∧ EncodesByte 0x1B#8 .brle ∧ EncodesByte 0x1C#8 .brlt ∧
  ∀ (s : State) (t : Byte),
    Jumps (exec (.jmp t) s) s t ∧
    Jumps (exec (.breq t) s) s (if s.sr.z = true then t else s.pc) ∧
    Jumps (exec (.brne t) s) s (if s.sr.z = false then t else s.pc) ∧
    Jumps (exec (.brge t) s) s (if s.sr.s = false then t else s.pc) ∧
    Jumps (exec (.brgt t) s) s (if s.sr.s = false ∧ s.sr.z = false then t else s.pc) ∧
    Jumps (exec (.brle t) s) s (if s.sr.s = true ∨ s.sr.z = true then t else s.pc) ∧
    Jumps (exec (.brlt t) s) s (if s.sr.s = true then t else s.pc)

/-- 44_control_transfer R190: CALL pushes the (already incremented) `pc` and jumps, also when the stack is full and the push
is dropped. -/
def Obligations.CallPushesThePcAndJumps : Prop :=
  EncodesByte 0x1D#8 .call ∧
  ∀ (s : State) (t : Byte), ∃ u, exec (.call t) s = .next u ∧ u.pc = t ∧ PushedOn s.pc s u ∧
    SameRegs s u ∧ u.sr = s.sr ∧ SameMem s u ∧ u.stkUnf = s.stkUnf ∧ u.memOor = s.memOor ∧ SameControl s u

/-- 44_control_transfer R188, R189: RET and RETI pop the `pc`, 0x00 from the empty stack; RETI also sets I and no other
flag, and another enabled pending source is serviced right after it, with the address it just popped pushed again. -/
def Obligations.RetAndRetiPopThePc : Prop :=
  EncodesNone 0x1E#8 .ret ∧ EncodesNone 0x1F#8 .reti ∧
  ∀ s : State,
    (∃ u, exec .ret s = .next u ∧ PoppedFrom u.pc s u ∧ u.sr = s.sr ∧ SameRegs s u ∧ SameMem s u ∧
      u.stkOvf = s.stkOvf ∧ u.memOor = s.memOor ∧ SameControl s u) ∧
    (∃ u, exec .reti s = .next u ∧ PoppedFrom u.pc s u ∧ u.sr.i = true ∧ SameArithmeticFlags s u ∧ SameRegs s u ∧
      SameMem s u ∧ u.stkOvf = s.stkOvf ∧ u.memOor = s.memOor ∧ SameControl s u) ∧
    (∀ n : Source, s.phase = .fetch → decode (progRead s s.pc) = .instr .reti → s.sp.val ≠ 1024 →
      (s.byteAt 266).getLsbD n.val = true → (s.byteAt 265).getLsbD n.val = true →
      (∀ m : Source, m < n → ¬((s.byteAt 266).getLsbD m.val = true ∧ (s.byteAt 265).getLsbD m.val = true)) →
      ∃ t, step s = .next t ∧ t.pc = s.cfg.vec[n.val] ∧ t.sr.i = false ∧ t.sp = s.sp ∧
        t.stackByte s.sp.val = s.stackByte s.sp.val)

/-- 44_control_transfer R188, R190: with room on the stack, a call followed by a return, whatever ran in between and left
the live stack as the call left it, restores the counter to the instruction after the call and the stack pointer. -/
def Obligations.CallThenReturnRestoresTheCounter : Prop :=
  ∀ (s : State) (t : Byte), s.sp.val ≠ 0 → ∃ u, exec (.call t) s = .next u ∧ u.pc = t ∧
    ∀ v : State, v.sp = u.sp → (∀ j, u.sp.val ≤ j → v.stackByte j = u.stackByte j) →
      ∃ w, exec .ret v = .next w ∧ w.pc = s.pc ∧ w.sp = s.sp ∧
        (∀ j, s.sp.val ≤ j → w.stackByte j = s.stackByte j)

/-! ## The stack -/

/-- 45_stack R200, R201; 20_memory R60, R61: PUSH and POP, on the full and the empty stack too. -/
def Obligations.PushAndPopMoveOneByte : Prop :=
  EncodesReg 0x20#8 .push ∧ EncodesReg 0x21#8 .pop ∧
  ∀ (s : State) (r : Reg),
    (∃ u, exec (.push r) s = .next u ∧ PushedOn (s.x r) s u ∧ SameRegs s u ∧ u.sr = s.sr ∧ u.pc = s.pc ∧
      SameMem s u ∧ u.stkUnf = s.stkUnf ∧ u.memOor = s.memOor ∧ SameControl s u) ∧
    (∃ u, exec (.pop r) s = .next u ∧ PoppedFrom (u.x r) s u ∧ SameRegsBut r s u ∧ u.sr = s.sr ∧ u.pc = s.pc ∧
      SameMem s u ∧ u.stkOvf = s.stkOvf ∧ u.memOor = s.memOor ∧ SameControl s u)

/-- 20_memory R63: with neither indicator raised the stack is a list: a push prepends, a pop removes and returns the head,
and no other byte of the stack store is ever returned. -/
def Obligations.StackRefinesAList : Prop :=
  (∀ (s : State) (v : Byte), s.sp.val ≠ 0 → liveStack (push v s) = v :: liveStack s) ∧
  (∀ s : State, s.sp.val ≠ 1024 → liveStack s = (pop s).1 :: liveStack (pop s).2) ∧
  (∀ s : State, (liveStack s).length = s.depth ∧ (s.peekTop = (liveStack s).head?))

/-- 20_memory R63: any pushes within capacity followed by the same count of pops give the values in reverse order, restore
the pointer and raise no indicator. -/
def Obligations.PopsReverseThePushes : Prop :=
  ∀ (vs : List Byte) (s : State), vs.length ≤ s.sp.val →
    (popMany vs.length (pushAll vs s)).1 = vs.reverse ∧
    (popMany vs.length (pushAll vs s)).2.sp = s.sp ∧
    SameIndicators s (popMany vs.length (pushAll vs s)).2 ∧
    liveStack (popMany vs.length (pushAll vs s)).2 = liveStack s

/-! ## Shifts and the interrupt enable -/

/-- 46_shift R210, R211: one bit, zero fill, no flag. -/
def Obligations.ShiftsMoveByOneBit : Prop :=
  EncodesReg 0x22#8 .lsl ∧ EncodesReg 0x23#8 .lsr ∧
  ∀ (s : State) (d : Reg),
    Loads (exec (.lsl d) s) s d (BitVec.ofNat 8 (2 * (s.x d).toNat)) ∧
    Loads (exec (.lsr d) s) s d (BitVec.ofNat 8 ((s.x d).toNat / 2))

/-- 47_interrupt_enable R220, R221: SEI sets I, CLI clears it; no other flag and nothing else changes. The interrupt check of
the same transition sees the new I: after SEI an enabled source already pending is serviced at once, with the address after
SEI pushed; after CLI none is, and every pending flag stays. -/
def Obligations.SeiAndCliWriteOnlyI : Prop :=
  EncodesNone 0x24#8 .sei ∧ EncodesNone 0x25#8 .cli ∧
  (∀ s : State,
    (∃ t, exec .sei s = .next t ∧ t.sr.i = true ∧ SameArithmeticFlags s t ∧ OnlyStatus s t) ∧
    (∃ t, exec .cli s = .next t ∧ t.sr.i = false ∧ SameArithmeticFlags s t ∧ OnlyStatus s t)) ∧
  (∀ (s : State) (n : Source), s.phase = .fetch → decode (progRead s s.pc) = .instr .sei →
    (s.byteAt 266).getLsbD n.val = true → (s.byteAt 265).getLsbD n.val = true →
    (∀ m : Source, m < n → ¬((s.byteAt 266).getLsbD m.val = true ∧ (s.byteAt 265).getLsbD m.val = true)) →
    ∃ t, step s = .next t ∧ t.pc = s.cfg.vec[n.val] ∧ t.sr.i = false ∧
      (s.sp.val ≠ 0 → t.sp.val = s.sp.val - 1 ∧ t.stackByte t.sp.val = s.pc + 1#8)) ∧
  (∀ s : State, s.phase = .fetch → decode (progRead s s.pc) = .instr .cli →
    ∃ t, step s = .next t ∧ t.pc = s.pc + 1#8 ∧ t.sr.i = false ∧ SameStack s t ∧
      ∀ j, (s.byteAt 266).getLsbD j = true → (t.byteAt 266).getLsbD j = true)

/-! ## Interrupts -/

/-- 60_exceptions R241: servicing source n clears bit n of `PCIFR` and no other, pushes the `pc`, clears I, sets the `pc` to
the vector, and changes nothing else, also when the push is dropped. -/
def Obligations.ServicingSavesThePcAndGoesToTheVector : Prop :=
  ∀ (n : Source) (s : State), ∃ t, t = service n s ∧
    (∀ j, j < 8 → (t.byteAt 266).getLsbD j = (decide (j ≠ n.val) && (s.byteAt 266).getLsbD j)) ∧
    SameMemBut 266 s t ∧ PushedOn s.pc s t ∧ t.sr.i = false ∧ SameArithmeticFlags s t ∧
    t.pc = s.cfg.vec[n.val] ∧ SameRegs s t ∧ t.stkUnf = s.stkUnf ∧ t.memOor = s.memOor ∧ SameControl s t

/-- 60_exceptions R239, R240: the check services the first of the sources 0, 1, 2 that is pending and enabled, and only
with I set; otherwise it changes nothing. -/
def Obligations.CheckServicesTheFirstEnabledPendingSource : Prop :=
  (∀ s : State, s.sr.i = false → checkInterrupt s = s) ∧
  (∀ (s : State) (n : Source), s.sr.i = true →
    (s.byteAt 266).getLsbD n.val = true → (s.byteAt 265).getLsbD n.val = true →
    (∀ m : Source, m < n → ¬((s.byteAt 266).getLsbD m.val = true ∧ (s.byteAt 265).getLsbD m.val = true)) →
    checkInterrupt s = service n s) ∧
  (∀ s : State, (∀ m : Source, ¬((s.byteAt 266).getLsbD m.val = true ∧ (s.byteAt 265).getLsbD m.val = true)) →
    checkInterrupt s = s)

/-- 60_exceptions R236: monitor n sets bit n of `PCIFR` exactly on a change of an enabled bit of `PINn`, never clears a
flag, takes the new sample always, and changes nothing else. -/
def Obligations.MonitorRaisesThePendingFlagOnAChange : Prop :=
  ∀ (n : Source) (s : State), ∃ t, t = monitor n s ∧
    (∀ j, j < 8 → (t.byteAt 266).getLsbD j =
      ((s.byteAt 266).getLsbD j ||
        (decide (j = n.val) &&
          decide (((s.byteAt (3 * n.val + 2) ^^^ s.latch n) &&& s.byteAt (272 + n.val)) ≠ 0x00#8)))) ∧
    SameMemBut 266 s t ∧ t.latch n = s.byteAt (3 * n.val + 2) ∧ (∀ m, m ≠ n → t.latch m = s.latch m) ∧
    SameRegs s t ∧ t.sr = s.sr ∧ t.pc = s.pc ∧ SameStack s t ∧ SameIndicators s t ∧ t.phase = s.phase ∧
    t.ir = s.ir ∧ t.opc = s.opc ∧ t.op1 = s.op1 ∧ t.op2 = s.op2 ∧ t.cia = s.cia ∧ t.prog = s.prog ∧ t.cfg = s.cfg

/-- 60_exceptions R247, 40_control_unit R103 consequence b: with I set, source 0 enabled and nothing pending, a change of an
enabled pin of port 0 is latched by the step that samples it and serviced by the next one, not earlier (both at NOPs). -/
def Obligations.PinChangeIsServicedOneInstructionLater : Prop :=
  ∀ s : State, s.phase = .fetch → s.sr.i = true → (s.byteAt 265).getLsbD 0 = true → s.byteAt 266 = 0x00#8 →
    ((s.byteAt 2 ^^^ s.latch 0) &&& s.byteAt 272) ≠ 0x00#8 → s.sp.val ≠ 0 →
    decode (progRead s s.pc) = .instr .nop → decode (progRead s (s.pc + 1#8)) = .instr .nop →
    ∃ t u, step s = .next t ∧ t.pc = s.pc + 1#8 ∧ t.sr.i = true ∧ (t.byteAt 266).getLsbD 0 = true ∧
      t.latch 0 = s.byteAt 2 ∧ t.sp = s.sp ∧
      step t = .next u ∧ u.pc = s.cfg.vec[0] ∧ u.sr.i = false ∧ (u.byteAt 266).getLsbD 0 = false ∧
      u.sp.val = s.sp.val - 1 ∧ u.stackByte u.sp.val = s.pc + 2#8

/-! ## The host -/

/-- 70 R268: a pin write stores the byte in `PINn` and touches nothing else, neither `prev[n]` nor `PCIFR`. -/
def Obligations.HostPinWriteChangesOneCell : Prop :=
  ∀ (s : State) (n : Source) (v : Byte), ∃ t, hostMove (.writePin n v) s = .next t ∧
    t.byteAt (3 * n.val + 2) = v ∧ OnlyMem (3 * n.val + 2) s t

/-- 40_control_unit R107: a pin write between FETCH and DECODE, or between DECODE and EXECUTE, has the same effect as the
same write before the FETCH, so stepping whole instructions loses nothing. -/
def Obligations.PinWritesMoveBeforeTheFetch : Prop :=
  ∀ (s : State) (n : Source) (v : Byte), s.phase = .fetch →
    hostRun [.step, .writePin n v, .step, .step] s = hostRun [.writePin n v, .runInstruction] s ∧
    hostRun [.step, .step, .writePin n v, .step] s = hostRun [.writePin n v, .runInstruction] s

/-- 40_control_unit R108: at a self-jump with I clear a step stays at the self-jump with registers, flags, stack and every
byte but `PCIFR` unchanged. -/
def Obligations.SelfJumpStaysWhileInterruptsAreOff : Prop :=
  ∀ s : State, AtSelfJump s → s.sr.i = false →
    ∃ t, step s = .next t ∧ AtSelfJump t ∧ t.pc = s.pc ∧ SameRegs s t ∧ t.sr = s.sr ∧ SameStack s t ∧
      SameIndicators s t ∧ SameMemBut 266 s t

/-! ## Encoding -/

/-- 95_test_vectors section 2.1: words written out bit by bit decode as the spec says. -/
def Obligations.SampleWordsDecode : Prop :=
  decode 0b000000010001000000000101#24 = .instr (.ldi 16 5) ∧
  decode 0b000100010001000000010001#24 = .instr (.sub 16 17) ∧
  decode 0b000110100001000000000000#24 = .instr (.brgt 0x10) ∧
  decode 0b001010000001101000010000#24 = .instr (.st 26 16) ∧
  decode 0b001010010001001000011010#24 = .instr (.ld 18 26) ∧
  decode 0b000000001111111111111111#24 = .instr .nop ∧
  decode 0b000111101010101111001101#24 = .instr .ret ∧
  decode 0b001010100000000000000000#24 = .unrecognized 0x2A ∧
  decode 0b000000010010000000000000#24 = .reservedRegister 32 ∧
  decode 0b000000100001111100100000#24 = .reservedRegister 32

/-- 30_encoding R80, R83, R84: decoding the encoding of any instruction gives that instruction, every operand at every
value; and a word that decodes to an instruction has that instruction's encoding in every byte the instruction uses. -/
def Obligations.DecodeOfEncodeIsTheInstruction : Prop :=
  (∀ i : Instr, decode (encode i) = .instr i) ∧
  (∀ (w : Word24) (i : Instr), decode w = .instr i →
    wordOpcode w = wordOpcode (encode i) ∧
    (wordOperand1 w = wordOperand1 (encode i) ∨ ∀ b, decode (packWord (wordOpcode w) b (wordOperand2 w)) = .instr i) ∧
    (wordOperand2 w = wordOperand2 (encode i) ∨ ∀ b, decode (packWord (wordOpcode w) (wordOperand1 w) b) = .instr i))

/-- 30_encoding R85, R84, R86: the opcode byte alone selects the instruction kind (R85). That there is one kind for each of
0x00 to 0x29 and no hole is R84's own inference, "derived: by counting the list"; which value goes with which kind is the
spec's decision D2 (log entry 3); that no opcode above 0x29 is recognized is R86. -/
def Obligations.OpcodeByteAloneSelects : Prop :=
  (∀ (w : Word24) (i : Instr), decode w = .instr i → wordOpcode w = opcodeOf i.kind) ∧
  (∀ k l : Kind, opcodeOf k = opcodeOf l → k = l) ∧
  (∀ o : Byte, o.toNat ≤ 0x29 ↔ ∃ k, opcodeOf k = o) ∧
  (∀ w : Word24, (∃ o, decode w = .unrecognized o) ↔ 0x2A ≤ (wordOpcode w).toNat)

/-- 30_encoding R89: an unused operand byte is ignored, and an assembler writes 0 in it. -/
def Obligations.UnusedOperandBytesAreIgnored : Prop :=
  (∀ o ∈ [0x07, 0x12, 0x13, 0x16, 0x17, 0x18, 0x19, 0x1A, 0x1B, 0x1C, 0x1D, 0x20, 0x21, 0x22, 0x23].map (BitVec.ofNat 8),
    ∀ a b b' : Byte, decode (packWord o a b) = decode (packWord o a b')) ∧
  (∀ o ∈ [0x00, 0x1E, 0x1F, 0x24, 0x25].map (BitVec.ofNat 8),
    ∀ a b a' b' : Byte, decode (packWord o a b) = decode (packWord o a' b')) ∧
  (∀ i : Instr, wordOpcode (encode i) ∈
      [0x00, 0x07, 0x12, 0x13, 0x16, 0x17, 0x18, 0x19, 0x1A, 0x1B, 0x1C, 0x1D, 0x1E, 0x1F, 0x20, 0x21, 0x22, 0x23, 0x24,
        0x25].map (BitVec.ofNat 8) → wordOperand2 (encode i) = 0x00#8) ∧
  (∀ i : Instr, wordOpcode (encode i) ∈ [0x00, 0x1E, 0x1F, 0x24, 0x25].map (BitVec.ofNat 8) →
    wordOperand1 (encode i) = 0x00#8)

/-- 30_encoding R87: a register field of 32 to 255 is refused before any effect: never masked, never a value, never a
reset. -/
def Obligations.ReservedRegisterFieldsAreRefused : Prop :=
  (∀ s : State, s.phase = .fetch →
    wordOpcode (progRead s s.pc) ∈
      [0x01, 0x02, 0x04, 0x06, 0x07, 0x08, 0x09, 0x0A, 0x0B, 0x0C, 0x0D, 0x0E, 0x0F, 0x10, 0x11, 0x12, 0x13, 0x14, 0x15,
        0x20, 0x21, 0x22, 0x23, 0x27, 0x29].map (BitVec.ofNat 8) →
    32 ≤ (wordOperand1 (progRead s s.pc)).toNat →
    step s = .refused (.reservedRegister (wordOperand1 (progRead s s.pc)))) ∧
  (∀ s : State, s.phase = .fetch →
    wordOpcode (progRead s s.pc) ∈
      [0x02, 0x03, 0x05, 0x0B, 0x0C, 0x0D, 0x10, 0x11, 0x15, 0x26, 0x28].map (BitVec.ofNat 8) →
    32 ≤ (wordOperand2 (progRead s s.pc)).toNat →
    ∃ b, step s = .refused (.reservedRegister b) ∨ step s = .refused (.reservedPointer b))

/-- 30_encoding R88: a pointer field of STIO, LDIO, ST or LD that is neither `PTR_A_LO` nor `PTR_B_LO` is refused. -/
def Obligations.ReservedPointerFieldsAreRefused : Prop :=
  (∀ s : State, s.phase = .fetch →
    (wordOpcode (progRead s s.pc) = 0x26#8 ∨ wordOpcode (progRead s s.pc) = 0x28#8) →
    (wordOperand2 (progRead s s.pc)).toNat < 32 →
    (wordOperand1 (progRead s s.pc)).toNat ≠ s.cfg.ptrALo.val →
    (wordOperand1 (progRead s s.pc)).toNat ≠ s.cfg.ptrBLo.val →
    step s = .refused (.reservedPointer (wordOperand1 (progRead s s.pc)))) ∧
  (∀ s : State, s.phase = .fetch →
    (wordOpcode (progRead s s.pc) = 0x27#8 ∨ wordOpcode (progRead s s.pc) = 0x29#8) →
    (wordOperand1 (progRead s s.pc)).toNat < 32 →
    (wordOperand2 (progRead s s.pc)).toNat ≠ s.cfg.ptrALo.val →
    (wordOperand2 (progRead s s.pc)).toNat ≠ s.cfg.ptrBLo.val →
    step s = .refused (.reservedPointer (wordOperand2 (progRead s s.pc))))
end

