-- ==== Sys2Proof/Laws/Cells.lean ====
section
/-! SUPPORT. The sparse stores: a read after a write, that a write keeps the canonical form, and that canonical stores with
the same reads are equal. -/

namespace Sys2Proof.Machine

variable {w : Nat}

theorem cellAt_eraseCell (m : Cells w) (a b : Nat) :
    cellAt (eraseCell m a) b = if b = a then 0#w else cellAt m b := by
  induction m with
  | nil => simp [eraseCell, cellAt]
  | cons c t ih =>
    rw [eraseCell] at ih ⊢
    by_cases hc : c.1 = a
    · simp only [List.filter_cons, hc, bne_self_eq_false, Bool.false_eq_true, ↓reduceIte, ih, cellAt]
      by_cases hb : b = a
      · simp [hb]
      · simp [hb, Ne.symm hb]
    · simp only [List.filter_cons, bne_iff_ne, ne_eq, hc, not_false_eq_true, ↓reduceIte, cellAt, ih]
      by_cases hcb : c.1 = b
      · have : b ≠ a := hcb ▸ hc
        simp [hcb, this]
      · simp [hcb]

theorem cellAt_insertCell (m : Cells w) (a b : Nat) (v : BitVec w) (h : ∀ c ∈ m, c.1 ≠ a) :
    cellAt (insertCell m a v) b = if b = a then v else cellAt m b := by
  induction m with
  | nil => simp [insertCell, cellAt, eq_comm]
  | cons c t ih =>
    have hc : c.1 ≠ a := h c (by simp)
    have ht := ih fun d hd => h d (by simp [hd])
    unfold insertCell
    split
    · by_cases hb : b = a
      · simp [cellAt, hb]
      · simp [cellAt, hb, Ne.symm hb]
    · by_cases hb : b = a
      · subst hb; simp [cellAt, hc, ht]
      · simp [cellAt, hb, ht]

theorem not_mem_eraseCell (m : Cells w) (a : Nat) : ∀ c ∈ eraseCell m a, c.1 ≠ a := by
  intro c hc
  simpa [eraseCell] using (List.mem_filter.mp hc).2

/-- What a write does to every read, at every store. -/
theorem cellAt_writeCell (m : Cells w) (a b : Nat) (v : BitVec w) :
    cellAt (writeCell m a v) b = if b = a then v else cellAt m b := by
  unfold writeCell
  split
  · next h => rw [cellAt_eraseCell, h]
  · rw [cellAt_insertCell _ _ _ _ (not_mem_eraseCell m a), cellAt_eraseCell]
    split <;> rfl

@[simp] theorem cellAt_writeCell_self (m : Cells w) (a : Nat) (v : BitVec w) :
    cellAt (writeCell m a v) a = v := by
  simp [cellAt_writeCell]

theorem mem_insertCell (m : Cells w) (a : Nat) (v : BitVec w) (c : Nat × BitVec w) :
    c ∈ insertCell m a v ↔ c = (a, v) ∨ c ∈ m := by
  induction m with
  | nil => simp [insertCell]
  | cons d t ih =>
    unfold insertCell
    split
    · simp
    · simp only [List.mem_cons, ih]; tauto

theorem pairwise_insertCell (m : Cells w) (a : Nat) (v : BitVec w) (hne : ∀ c ∈ m, c.1 ≠ a)
    (h : m.Pairwise fun c d => c.1 < d.1) : (insertCell m a v).Pairwise fun c d => c.1 < d.1 := by
  induction m with
  | nil => simp [insertCell]
  | cons c t ih =>
    have hc := hne c (by simp)
    rw [List.pairwise_cons] at h
    unfold insertCell
    split
    · next hlt =>
      refine List.pairwise_cons.mpr ⟨fun d hd => ?_, List.pairwise_cons.mpr h⟩
      rcases List.mem_cons.mp hd with rfl | hd
      · exact hlt
      · exact Nat.lt_trans hlt (h.1 d hd)
    · next hge =>
      refine List.pairwise_cons.mpr ⟨fun d hd => ?_, ih (fun d hd => hne d (by simp [hd])) h.2⟩
      rcases (mem_insertCell t a v d).mp hd with rfl | hd
      · exact Nat.lt_of_le_of_ne (Nat.le_of_not_lt hge) hc
      · exact h.1 d hd

/-- Every write inside the bound keeps the canonical form. -/
theorem writeCell_wf {bound : Nat} {m : Cells w} (a : Nat) (v : BitVec w) (ha : a < bound)
    (h : Cells.Wf bound m) : Cells.Wf bound (writeCell m a v) := by
  have herase : Cells.Wf bound (eraseCell m a) :=
    ⟨h.1.filter _, fun c hc => h.2 c (List.mem_filter.mp hc).1⟩
  unfold writeCell
  split
  · exact herase
  · next hv =>
    refine ⟨pairwise_insertCell _ _ _ (not_mem_eraseCell m a) herase.1, fun c hc => ?_⟩
    rcases (mem_insertCell _ _ _ c).mp hc with rfl | hc
    · exact ⟨ha, hv⟩
    · exact herase.2 c hc

theorem cellAt_of_mem {m : Cells w} (h : m.Pairwise fun c d => c.1 < d.1) {c : Nat × BitVec w} (hc : c ∈ m) :
    cellAt m c.1 = c.2 := by
  induction m with
  | nil => simp at hc
  | cons d t ih =>
    rw [List.pairwise_cons] at h
    rcases List.mem_cons.mp hc with rfl | hc
    · simp [cellAt]
    · have := h.1 c hc
      simp [cellAt, Nat.ne_of_lt this, ih h.2 hc]

theorem cellAt_of_not_listed {m : Cells w} {a : Nat} (h : ∀ c ∈ m, c.1 ≠ a) : cellAt m a = 0#w := by
  induction m with
  | nil => rfl
  | cons c t ih => simp [cellAt, h c (by simp), ih fun d hd => h d (by simp [hd])]

end Sys2Proof.Machine
end

