-- ==== Sys2Proof/Laws/State.lean ====
section
/-! SUPPORT. What each update of the state leaves in each field: one lemma per field per update, and the registers, latches,
memory bytes and stack bytes read through the accessors. -/

namespace Sys2Proof.Machine

/-! ## setX -/

@[simp] theorem State.setX_regs (s : State) (r : Reg) (v : Byte) : (s.setX r v).regs = s.regs.set r.val v := rfl
@[simp] theorem State.setX_pc (s : State) (r : Reg) (v : Byte) : (s.setX r v).pc = s.pc := rfl
@[simp] theorem State.setX_sr (s : State) (r : Reg) (v : Byte) : (s.setX r v).sr = s.sr := rfl
@[simp] theorem State.setX_phase (s : State) (r : Reg) (v : Byte) : (s.setX r v).phase = s.phase := rfl
@[simp] theorem State.setX_ir (s : State) (r : Reg) (v : Byte) : (s.setX r v).ir = s.ir := rfl
@[simp] theorem State.setX_opc (s : State) (r : Reg) (v : Byte) : (s.setX r v).opc = s.opc := rfl
@[simp] theorem State.setX_op1 (s : State) (r : Reg) (v : Byte) : (s.setX r v).op1 = s.op1 := rfl
@[simp] theorem State.setX_op2 (s : State) (r : Reg) (v : Byte) : (s.setX r v).op2 = s.op2 := rfl
@[simp] theorem State.setX_cia (s : State) (r : Reg) (v : Byte) : (s.setX r v).cia = s.cia := rfl
@[simp] theorem State.setX_dmem (s : State) (r : Reg) (v : Byte) : (s.setX r v).dmem = s.dmem := rfl
@[simp] theorem State.setX_stack (s : State) (r : Reg) (v : Byte) : (s.setX r v).stack = s.stack := rfl
@[simp] theorem State.setX_sp (s : State) (r : Reg) (v : Byte) : (s.setX r v).sp = s.sp := rfl
@[simp] theorem State.setX_prev (s : State) (r : Reg) (v : Byte) : (s.setX r v).prev = s.prev := rfl
@[simp] theorem State.setX_stkOvf (s : State) (r : Reg) (v : Byte) : (s.setX r v).stkOvf = s.stkOvf := rfl
@[simp] theorem State.setX_stkUnf (s : State) (r : Reg) (v : Byte) : (s.setX r v).stkUnf = s.stkUnf := rfl
@[simp] theorem State.setX_memOor (s : State) (r : Reg) (v : Byte) : (s.setX r v).memOor = s.memOor := rfl
@[simp] theorem State.setX_prog (s : State) (r : Reg) (v : Byte) : (s.setX r v).prog = s.prog := rfl
@[simp] theorem State.setX_cfg (s : State) (r : Reg) (v : Byte) : (s.setX r v).cfg = s.cfg := rfl

/-! ## setPc -/

@[simp] theorem State.setPc_regs (s : State) (t : Byte) : (s.setPc t).regs = s.regs := rfl
@[simp] theorem State.setPc_pc (s : State) (t : Byte) : (s.setPc t).pc = t := rfl
@[simp] theorem State.setPc_sr (s : State) (t : Byte) : (s.setPc t).sr = s.sr := rfl
@[simp] theorem State.setPc_phase (s : State) (t : Byte) : (s.setPc t).phase = s.phase := rfl
@[simp] theorem State.setPc_ir (s : State) (t : Byte) : (s.setPc t).ir = s.ir := rfl
@[simp] theorem State.setPc_opc (s : State) (t : Byte) : (s.setPc t).opc = s.opc := rfl
@[simp] theorem State.setPc_op1 (s : State) (t : Byte) : (s.setPc t).op1 = s.op1 := rfl
@[simp] theorem State.setPc_op2 (s : State) (t : Byte) : (s.setPc t).op2 = s.op2 := rfl
@[simp] theorem State.setPc_cia (s : State) (t : Byte) : (s.setPc t).cia = s.cia := rfl
@[simp] theorem State.setPc_dmem (s : State) (t : Byte) : (s.setPc t).dmem = s.dmem := rfl
@[simp] theorem State.setPc_stack (s : State) (t : Byte) : (s.setPc t).stack = s.stack := rfl
@[simp] theorem State.setPc_sp (s : State) (t : Byte) : (s.setPc t).sp = s.sp := rfl
@[simp] theorem State.setPc_prev (s : State) (t : Byte) : (s.setPc t).prev = s.prev := rfl
@[simp] theorem State.setPc_stkOvf (s : State) (t : Byte) : (s.setPc t).stkOvf = s.stkOvf := rfl
@[simp] theorem State.setPc_stkUnf (s : State) (t : Byte) : (s.setPc t).stkUnf = s.stkUnf := rfl
@[simp] theorem State.setPc_memOor (s : State) (t : Byte) : (s.setPc t).memOor = s.memOor := rfl
@[simp] theorem State.setPc_prog (s : State) (t : Byte) : (s.setPc t).prog = s.prog := rfl
@[simp] theorem State.setPc_cfg (s : State) (t : Byte) : (s.setPc t).cfg = s.cfg := rfl

/-! ## setSr -/

@[simp] theorem State.setSr_regs (s : State) (f : Status) : (s.setSr f).regs = s.regs := rfl
@[simp] theorem State.setSr_pc (s : State) (f : Status) : (s.setSr f).pc = s.pc := rfl
@[simp] theorem State.setSr_sr (s : State) (f : Status) : (s.setSr f).sr = f := rfl
@[simp] theorem State.setSr_phase (s : State) (f : Status) : (s.setSr f).phase = s.phase := rfl
@[simp] theorem State.setSr_ir (s : State) (f : Status) : (s.setSr f).ir = s.ir := rfl
@[simp] theorem State.setSr_opc (s : State) (f : Status) : (s.setSr f).opc = s.opc := rfl
@[simp] theorem State.setSr_op1 (s : State) (f : Status) : (s.setSr f).op1 = s.op1 := rfl
@[simp] theorem State.setSr_op2 (s : State) (f : Status) : (s.setSr f).op2 = s.op2 := rfl
@[simp] theorem State.setSr_cia (s : State) (f : Status) : (s.setSr f).cia = s.cia := rfl
@[simp] theorem State.setSr_dmem (s : State) (f : Status) : (s.setSr f).dmem = s.dmem := rfl
@[simp] theorem State.setSr_stack (s : State) (f : Status) : (s.setSr f).stack = s.stack := rfl
@[simp] theorem State.setSr_sp (s : State) (f : Status) : (s.setSr f).sp = s.sp := rfl
@[simp] theorem State.setSr_prev (s : State) (f : Status) : (s.setSr f).prev = s.prev := rfl
@[simp] theorem State.setSr_stkOvf (s : State) (f : Status) : (s.setSr f).stkOvf = s.stkOvf := rfl
@[simp] theorem State.setSr_stkUnf (s : State) (f : Status) : (s.setSr f).stkUnf = s.stkUnf := rfl
@[simp] theorem State.setSr_memOor (s : State) (f : Status) : (s.setSr f).memOor = s.memOor := rfl
@[simp] theorem State.setSr_prog (s : State) (f : Status) : (s.setSr f).prog = s.prog := rfl
@[simp] theorem State.setSr_cfg (s : State) (f : Status) : (s.setSr f).cfg = s.cfg := rfl

/-! ## setI -/

@[simp] theorem State.setI_regs (s : State) (b : Bool) : (s.setI b).regs = s.regs := rfl
@[simp] theorem State.setI_pc (s : State) (b : Bool) : (s.setI b).pc = s.pc := rfl
@[simp] theorem State.setI_sr (s : State) (b : Bool) : (s.setI b).sr = { s.sr with i := b } := rfl
@[simp] theorem State.setI_phase (s : State) (b : Bool) : (s.setI b).phase = s.phase := rfl
@[simp] theorem State.setI_ir (s : State) (b : Bool) : (s.setI b).ir = s.ir := rfl
@[simp] theorem State.setI_opc (s : State) (b : Bool) : (s.setI b).opc = s.opc := rfl
@[simp] theorem State.setI_op1 (s : State) (b : Bool) : (s.setI b).op1 = s.op1 := rfl
@[simp] theorem State.setI_op2 (s : State) (b : Bool) : (s.setI b).op2 = s.op2 := rfl
@[simp] theorem State.setI_cia (s : State) (b : Bool) : (s.setI b).cia = s.cia := rfl
@[simp] theorem State.setI_dmem (s : State) (b : Bool) : (s.setI b).dmem = s.dmem := rfl
@[simp] theorem State.setI_stack (s : State) (b : Bool) : (s.setI b).stack = s.stack := rfl
@[simp] theorem State.setI_sp (s : State) (b : Bool) : (s.setI b).sp = s.sp := rfl
@[simp] theorem State.setI_prev (s : State) (b : Bool) : (s.setI b).prev = s.prev := rfl
@[simp] theorem State.setI_stkOvf (s : State) (b : Bool) : (s.setI b).stkOvf = s.stkOvf := rfl
@[simp] theorem State.setI_stkUnf (s : State) (b : Bool) : (s.setI b).stkUnf = s.stkUnf := rfl
@[simp] theorem State.setI_memOor (s : State) (b : Bool) : (s.setI b).memOor = s.memOor := rfl
@[simp] theorem State.setI_prog (s : State) (b : Bool) : (s.setI b).prog = s.prog := rfl
@[simp] theorem State.setI_cfg (s : State) (b : Bool) : (s.setI b).cfg = s.cfg := rfl

/-! ## setPhase -/

@[simp] theorem State.setPhase_regs (s : State) (p : Phase) : (s.setPhase p).regs = s.regs := rfl
@[simp] theorem State.setPhase_pc (s : State) (p : Phase) : (s.setPhase p).pc = s.pc := rfl
@[simp] theorem State.setPhase_sr (s : State) (p : Phase) : (s.setPhase p).sr = s.sr := rfl
@[simp] theorem State.setPhase_phase (s : State) (p : Phase) : (s.setPhase p).phase = p := rfl
@[simp] theorem State.setPhase_ir (s : State) (p : Phase) : (s.setPhase p).ir = s.ir := rfl
@[simp] theorem State.setPhase_opc (s : State) (p : Phase) : (s.setPhase p).opc = s.opc := rfl
@[simp] theorem State.setPhase_op1 (s : State) (p : Phase) : (s.setPhase p).op1 = s.op1 := rfl
@[simp] theorem State.setPhase_op2 (s : State) (p : Phase) : (s.setPhase p).op2 = s.op2 := rfl
@[simp] theorem State.setPhase_cia (s : State) (p : Phase) : (s.setPhase p).cia = s.cia := rfl
@[simp] theorem State.setPhase_dmem (s : State) (p : Phase) : (s.setPhase p).dmem = s.dmem := rfl
@[simp] theorem State.setPhase_stack (s : State) (p : Phase) : (s.setPhase p).stack = s.stack := rfl
@[simp] theorem State.setPhase_sp (s : State) (p : Phase) : (s.setPhase p).sp = s.sp := rfl
@[simp] theorem State.setPhase_prev (s : State) (p : Phase) : (s.setPhase p).prev = s.prev := rfl
@[simp] theorem State.setPhase_stkOvf (s : State) (p : Phase) : (s.setPhase p).stkOvf = s.stkOvf := rfl
@[simp] theorem State.setPhase_stkUnf (s : State) (p : Phase) : (s.setPhase p).stkUnf = s.stkUnf := rfl
@[simp] theorem State.setPhase_memOor (s : State) (p : Phase) : (s.setPhase p).memOor = s.memOor := rfl
@[simp] theorem State.setPhase_prog (s : State) (p : Phase) : (s.setPhase p).prog = s.prog := rfl
@[simp] theorem State.setPhase_cfg (s : State) (p : Phase) : (s.setPhase p).cfg = s.cfg := rfl

/-! ## setLatch -/

@[simp] theorem State.setLatch_regs (s : State) (n : Source) (v : Byte) : (s.setLatch n v).regs = s.regs := rfl
@[simp] theorem State.setLatch_pc (s : State) (n : Source) (v : Byte) : (s.setLatch n v).pc = s.pc := rfl
@[simp] theorem State.setLatch_sr (s : State) (n : Source) (v : Byte) : (s.setLatch n v).sr = s.sr := rfl
@[simp] theorem State.setLatch_phase (s : State) (n : Source) (v : Byte) : (s.setLatch n v).phase = s.phase := rfl
@[simp] theorem State.setLatch_ir (s : State) (n : Source) (v : Byte) : (s.setLatch n v).ir = s.ir := rfl
@[simp] theorem State.setLatch_opc (s : State) (n : Source) (v : Byte) : (s.setLatch n v).opc = s.opc := rfl
@[simp] theorem State.setLatch_op1 (s : State) (n : Source) (v : Byte) : (s.setLatch n v).op1 = s.op1 := rfl
@[simp] theorem State.setLatch_op2 (s : State) (n : Source) (v : Byte) : (s.setLatch n v).op2 = s.op2 := rfl
@[simp] theorem State.setLatch_cia (s : State) (n : Source) (v : Byte) : (s.setLatch n v).cia = s.cia := rfl
@[simp] theorem State.setLatch_dmem (s : State) (n : Source) (v : Byte) : (s.setLatch n v).dmem = s.dmem := rfl
@[simp] theorem State.setLatch_stack (s : State) (n : Source) (v : Byte) : (s.setLatch n v).stack = s.stack := rfl
@[simp] theorem State.setLatch_sp (s : State) (n : Source) (v : Byte) : (s.setLatch n v).sp = s.sp := rfl
@[simp] theorem State.setLatch_prev (s : State) (n : Source) (v : Byte) : (s.setLatch n v).prev = s.prev.set n.val v := rfl
@[simp] theorem State.setLatch_stkOvf (s : State) (n : Source) (v : Byte) : (s.setLatch n v).stkOvf = s.stkOvf := rfl
@[simp] theorem State.setLatch_stkUnf (s : State) (n : Source) (v : Byte) : (s.setLatch n v).stkUnf = s.stkUnf := rfl
@[simp] theorem State.setLatch_memOor (s : State) (n : Source) (v : Byte) : (s.setLatch n v).memOor = s.memOor := rfl
@[simp] theorem State.setLatch_prog (s : State) (n : Source) (v : Byte) : (s.setLatch n v).prog = s.prog := rfl
@[simp] theorem State.setLatch_cfg (s : State) (n : Source) (v : Byte) : (s.setLatch n v).cfg = s.cfg := rfl

/-! ## setDmem -/

@[simp] theorem State.setDmem_regs (s : State) (m : Cells 8) : (s.setDmem m).regs = s.regs := rfl
@[simp] theorem State.setDmem_pc (s : State) (m : Cells 8) : (s.setDmem m).pc = s.pc := rfl
@[simp] theorem State.setDmem_sr (s : State) (m : Cells 8) : (s.setDmem m).sr = s.sr := rfl
@[simp] theorem State.setDmem_phase (s : State) (m : Cells 8) : (s.setDmem m).phase = s.phase := rfl
@[simp] theorem State.setDmem_ir (s : State) (m : Cells 8) : (s.setDmem m).ir = s.ir := rfl
@[simp] theorem State.setDmem_opc (s : State) (m : Cells 8) : (s.setDmem m).opc = s.opc := rfl
@[simp] theorem State.setDmem_op1 (s : State) (m : Cells 8) : (s.setDmem m).op1 = s.op1 := rfl
@[simp] theorem State.setDmem_op2 (s : State) (m : Cells 8) : (s.setDmem m).op2 = s.op2 := rfl
@[simp] theorem State.setDmem_cia (s : State) (m : Cells 8) : (s.setDmem m).cia = s.cia := rfl
@[simp] theorem State.setDmem_dmem (s : State) (m : Cells 8) : (s.setDmem m).dmem = m := rfl
@[simp] theorem State.setDmem_stack (s : State) (m : Cells 8) : (s.setDmem m).stack = s.stack := rfl
@[simp] theorem State.setDmem_sp (s : State) (m : Cells 8) : (s.setDmem m).sp = s.sp := rfl
@[simp] theorem State.setDmem_prev (s : State) (m : Cells 8) : (s.setDmem m).prev = s.prev := rfl
@[simp] theorem State.setDmem_stkOvf (s : State) (m : Cells 8) : (s.setDmem m).stkOvf = s.stkOvf := rfl
@[simp] theorem State.setDmem_stkUnf (s : State) (m : Cells 8) : (s.setDmem m).stkUnf = s.stkUnf := rfl
@[simp] theorem State.setDmem_memOor (s : State) (m : Cells 8) : (s.setDmem m).memOor = s.memOor := rfl
@[simp] theorem State.setDmem_prog (s : State) (m : Cells 8) : (s.setDmem m).prog = s.prog := rfl
@[simp] theorem State.setDmem_cfg (s : State) (m : Cells 8) : (s.setDmem m).cfg = s.cfg := rfl

/-! ## setStack -/

@[simp] theorem State.setStack_regs (s : State) (m : Cells 8) (p : Fin 1025) : (s.setStack m p).regs = s.regs := rfl
@[simp] theorem State.setStack_pc (s : State) (m : Cells 8) (p : Fin 1025) : (s.setStack m p).pc = s.pc := rfl
@[simp] theorem State.setStack_sr (s : State) (m : Cells 8) (p : Fin 1025) : (s.setStack m p).sr = s.sr := rfl
@[simp] theorem State.setStack_phase (s : State) (m : Cells 8) (p : Fin 1025) : (s.setStack m p).phase = s.phase := rfl
@[simp] theorem State.setStack_ir (s : State) (m : Cells 8) (p : Fin 1025) : (s.setStack m p).ir = s.ir := rfl
@[simp] theorem State.setStack_opc (s : State) (m : Cells 8) (p : Fin 1025) : (s.setStack m p).opc = s.opc := rfl
@[simp] theorem State.setStack_op1 (s : State) (m : Cells 8) (p : Fin 1025) : (s.setStack m p).op1 = s.op1 := rfl
@[simp] theorem State.setStack_op2 (s : State) (m : Cells 8) (p : Fin 1025) : (s.setStack m p).op2 = s.op2 := rfl
@[simp] theorem State.setStack_cia (s : State) (m : Cells 8) (p : Fin 1025) : (s.setStack m p).cia = s.cia := rfl
@[simp] theorem State.setStack_dmem (s : State) (m : Cells 8) (p : Fin 1025) : (s.setStack m p).dmem = s.dmem := rfl
@[simp] theorem State.setStack_stack (s : State) (m : Cells 8) (p : Fin 1025) : (s.setStack m p).stack = m := rfl
@[simp] theorem State.setStack_sp (s : State) (m : Cells 8) (p : Fin 1025) : (s.setStack m p).sp = p := rfl
@[simp] theorem State.setStack_prev (s : State) (m : Cells 8) (p : Fin 1025) : (s.setStack m p).prev = s.prev := rfl
@[simp] theorem State.setStack_stkOvf (s : State) (m : Cells 8) (p : Fin 1025) : (s.setStack m p).stkOvf = s.stkOvf := rfl
@[simp] theorem State.setStack_stkUnf (s : State) (m : Cells 8) (p : Fin 1025) : (s.setStack m p).stkUnf = s.stkUnf := rfl
@[simp] theorem State.setStack_memOor (s : State) (m : Cells 8) (p : Fin 1025) : (s.setStack m p).memOor = s.memOor := rfl
@[simp] theorem State.setStack_prog (s : State) (m : Cells 8) (p : Fin 1025) : (s.setStack m p).prog = s.prog := rfl
@[simp] theorem State.setStack_cfg (s : State) (m : Cells 8) (p : Fin 1025) : (s.setStack m p).cfg = s.cfg := rfl

/-! ## markOor -/

@[simp] theorem State.markOor_regs (s : State) : s.markOor.regs = s.regs := rfl
@[simp] theorem State.markOor_pc (s : State) : s.markOor.pc = s.pc := rfl
@[simp] theorem State.markOor_sr (s : State) : s.markOor.sr = s.sr := rfl
@[simp] theorem State.markOor_phase (s : State) : s.markOor.phase = s.phase := rfl
@[simp] theorem State.markOor_ir (s : State) : s.markOor.ir = s.ir := rfl
@[simp] theorem State.markOor_opc (s : State) : s.markOor.opc = s.opc := rfl
@[simp] theorem State.markOor_op1 (s : State) : s.markOor.op1 = s.op1 := rfl
@[simp] theorem State.markOor_op2 (s : State) : s.markOor.op2 = s.op2 := rfl
@[simp] theorem State.markOor_cia (s : State) : s.markOor.cia = s.cia := rfl
@[simp] theorem State.markOor_dmem (s : State) : s.markOor.dmem = s.dmem := rfl
@[simp] theorem State.markOor_stack (s : State) : s.markOor.stack = s.stack := rfl
@[simp] theorem State.markOor_sp (s : State) : s.markOor.sp = s.sp := rfl
@[simp] theorem State.markOor_prev (s : State) : s.markOor.prev = s.prev := rfl
@[simp] theorem State.markOor_stkOvf (s : State) : s.markOor.stkOvf = s.stkOvf := rfl
@[simp] theorem State.markOor_stkUnf (s : State) : s.markOor.stkUnf = s.stkUnf := rfl
@[simp] theorem State.markOor_memOor (s : State) : s.markOor.memOor = true := rfl
@[simp] theorem State.markOor_prog (s : State) : s.markOor.prog = s.prog := rfl
@[simp] theorem State.markOor_cfg (s : State) : s.markOor.cfg = s.cfg := rfl

/-! ## markOvf -/

@[simp] theorem State.markOvf_regs (s : State) : s.markOvf.regs = s.regs := rfl
@[simp] theorem State.markOvf_pc (s : State) : s.markOvf.pc = s.pc := rfl
@[simp] theorem State.markOvf_sr (s : State) : s.markOvf.sr = s.sr := rfl
@[simp] theorem State.markOvf_phase (s : State) : s.markOvf.phase = s.phase := rfl
@[simp] theorem State.markOvf_ir (s : State) : s.markOvf.ir = s.ir := rfl
@[simp] theorem State.markOvf_opc (s : State) : s.markOvf.opc = s.opc := rfl
@[simp] theorem State.markOvf_op1 (s : State) : s.markOvf.op1 = s.op1 := rfl
@[simp] theorem State.markOvf_op2 (s : State) : s.markOvf.op2 = s.op2 := rfl
@[simp] theorem State.markOvf_cia (s : State) : s.markOvf.cia = s.cia := rfl
@[simp] theorem State.markOvf_dmem (s : State) : s.markOvf.dmem = s.dmem := rfl
@[simp] theorem State.markOvf_stack (s : State) : s.markOvf.stack = s.stack := rfl
@[simp] theorem State.markOvf_sp (s : State) : s.markOvf.sp = s.sp := rfl
@[simp] theorem State.markOvf_prev (s : State) : s.markOvf.prev = s.prev := rfl
@[simp] theorem State.markOvf_stkOvf (s : State) : s.markOvf.stkOvf = true := rfl
@[simp] theorem State.markOvf_stkUnf (s : State) : s.markOvf.stkUnf = s.stkUnf := rfl
@[simp] theorem State.markOvf_memOor (s : State) : s.markOvf.memOor = s.memOor := rfl
@[simp] theorem State.markOvf_prog (s : State) : s.markOvf.prog = s.prog := rfl
@[simp] theorem State.markOvf_cfg (s : State) : s.markOvf.cfg = s.cfg := rfl

/-! ## markUnf -/

@[simp] theorem State.markUnf_regs (s : State) : s.markUnf.regs = s.regs := rfl
@[simp] theorem State.markUnf_pc (s : State) : s.markUnf.pc = s.pc := rfl
@[simp] theorem State.markUnf_sr (s : State) : s.markUnf.sr = s.sr := rfl
@[simp] theorem State.markUnf_phase (s : State) : s.markUnf.phase = s.phase := rfl
@[simp] theorem State.markUnf_ir (s : State) : s.markUnf.ir = s.ir := rfl
@[simp] theorem State.markUnf_opc (s : State) : s.markUnf.opc = s.opc := rfl
@[simp] theorem State.markUnf_op1 (s : State) : s.markUnf.op1 = s.op1 := rfl
@[simp] theorem State.markUnf_op2 (s : State) : s.markUnf.op2 = s.op2 := rfl
@[simp] theorem State.markUnf_cia (s : State) : s.markUnf.cia = s.cia := rfl
@[simp] theorem State.markUnf_dmem (s : State) : s.markUnf.dmem = s.dmem := rfl
@[simp] theorem State.markUnf_stack (s : State) : s.markUnf.stack = s.stack := rfl
@[simp] theorem State.markUnf_sp (s : State) : s.markUnf.sp = s.sp := rfl
@[simp] theorem State.markUnf_prev (s : State) : s.markUnf.prev = s.prev := rfl
@[simp] theorem State.markUnf_stkOvf (s : State) : s.markUnf.stkOvf = s.stkOvf := rfl
@[simp] theorem State.markUnf_stkUnf (s : State) : s.markUnf.stkUnf = true := rfl
@[simp] theorem State.markUnf_memOor (s : State) : s.markUnf.memOor = s.memOor := rfl
@[simp] theorem State.markUnf_prog (s : State) : s.markUnf.prog = s.prog := rfl
@[simp] theorem State.markUnf_cfg (s : State) : s.markUnf.cfg = s.cfg := rfl

/-! ## Accessors -/

theorem State.x_congr {s t : State} (h : t.regs = s.regs) (r : Reg) : t.x r = s.x r := by
  simp [State.x, h]

theorem State.latch_congr {s t : State} (h : t.prev = s.prev) (n : Source) : t.latch n = s.latch n := by
  simp [State.latch, h]

theorem State.byteAt_eq (s : State) (a : Nat) :
    s.byteAt a = if a < dmemSize then cellAt s.dmem a else 0x00#8 := by
  unfold State.byteAt memRead; split <;> rfl

theorem State.byteAt_congr {s t : State} (h : t.dmem = s.dmem) (a : Nat) : t.byteAt a = s.byteAt a := by
  rw [State.byteAt_eq, State.byteAt_eq, h]

theorem State.stackByte_congr {s t : State} (h : t.stack = s.stack) (j : Nat) : t.stackByte j = s.stackByte j := by
  simp [State.stackByte, h]

theorem State.x_setX (s : State) (d r : Reg) (v : Byte) : (s.setX d v).x r = if r = d then v else s.x r := by
  by_cases h : r = d
  · subst h; simp [State.x]
  · have h' : d.val ≠ r.val := fun e => h (Fin.ext e.symm)
    simp [State.x, h, h']

@[simp] theorem State.x_setX_self (s : State) (d : Reg) (v : Byte) : (s.setX d v).x d = v := by
  simp [State.x_setX]

theorem State.latch_setLatch (s : State) (n m : Source) (v : Byte) :
    (s.setLatch n v).latch m = if m = n then v else s.latch m := by
  by_cases h : m = n
  · subst h; simp [State.latch]
  · have h' : n.val ≠ m.val := fun e => h (Fin.ext e.symm)
    simp [State.latch, h, h']

@[simp] theorem State.latch_setLatch_self (s : State) (n : Source) (v : Byte) : (s.setLatch n v).latch n = v := by
  simp [State.latch_setLatch]

@[simp] theorem State.latch_setX (s : State) (r : Reg) (v : Byte) (q : Source) : (s.setX r v).latch q = s.latch q := rfl
@[simp] theorem State.byteAt_setX (s : State) (r : Reg) (v : Byte) (q : Nat) : (s.setX r v).byteAt q = s.byteAt q :=
  State.byteAt_congr (s := s) (t := (s.setX r v)) rfl q
@[simp] theorem State.stackByte_setX (s : State) (r : Reg) (v : Byte) (q : Nat) : (s.setX r v).stackByte q = s.stackByte q := rfl
@[simp] theorem State.x_setPc (s : State) (t : Byte) (q : Reg) : (s.setPc t).x q = s.x q := rfl
@[simp] theorem State.latch_setPc (s : State) (t : Byte) (q : Source) : (s.setPc t).latch q = s.latch q := rfl
@[simp] theorem State.byteAt_setPc (s : State) (t : Byte) (q : Nat) : (s.setPc t).byteAt q = s.byteAt q :=
  State.byteAt_congr (s := s) (t := (s.setPc t)) rfl q
@[simp] theorem State.stackByte_setPc (s : State) (t : Byte) (q : Nat) : (s.setPc t).stackByte q = s.stackByte q := rfl
@[simp] theorem State.x_setSr (s : State) (f : Status) (q : Reg) : (s.setSr f).x q = s.x q := rfl
@[simp] theorem State.latch_setSr (s : State) (f : Status) (q : Source) : (s.setSr f).latch q = s.latch q := rfl
@[simp] theorem State.byteAt_setSr (s : State) (f : Status) (q : Nat) : (s.setSr f).byteAt q = s.byteAt q :=
  State.byteAt_congr (s := s) (t := (s.setSr f)) rfl q
@[simp] theorem State.stackByte_setSr (s : State) (f : Status) (q : Nat) : (s.setSr f).stackByte q = s.stackByte q := rfl
@[simp] theorem State.x_setI (s : State) (b : Bool) (q : Reg) : (s.setI b).x q = s.x q := rfl
@[simp] theorem State.latch_setI (s : State) (b : Bool) (q : Source) : (s.setI b).latch q = s.latch q := rfl
@[simp] theorem State.byteAt_setI (s : State) (b : Bool) (q : Nat) : (s.setI b).byteAt q = s.byteAt q :=
  State.byteAt_congr (s := s) (t := (s.setI b)) rfl q
@[simp] theorem State.stackByte_setI (s : State) (b : Bool) (q : Nat) : (s.setI b).stackByte q = s.stackByte q := rfl
@[simp] theorem State.x_setPhase (s : State) (p : Phase) (q : Reg) : (s.setPhase p).x q = s.x q := rfl
@[simp] theorem State.latch_setPhase (s : State) (p : Phase) (q : Source) : (s.setPhase p).latch q = s.latch q := rfl
@[simp] theorem State.byteAt_setPhase (s : State) (p : Phase) (q : Nat) : (s.setPhase p).byteAt q = s.byteAt q :=
  State.byteAt_congr (s := s) (t := (s.setPhase p)) rfl q
@[simp] theorem State.stackByte_setPhase (s : State) (p : Phase) (q : Nat) : (s.setPhase p).stackByte q = s.stackByte q := rfl
@[simp] theorem State.x_setLatch (s : State) (n : Source) (v : Byte) (q : Reg) : (s.setLatch n v).x q = s.x q := rfl
@[simp] theorem State.byteAt_setLatch (s : State) (n : Source) (v : Byte) (q : Nat) : (s.setLatch n v).byteAt q = s.byteAt q :=
  State.byteAt_congr (s := s) (t := (s.setLatch n v)) rfl q
@[simp] theorem State.stackByte_setLatch (s : State) (n : Source) (v : Byte) (q : Nat) : (s.setLatch n v).stackByte q = s.stackByte q := rfl
@[simp] theorem State.x_setDmem (s : State) (m : Cells 8) (q : Reg) : (s.setDmem m).x q = s.x q := rfl
@[simp] theorem State.latch_setDmem (s : State) (m : Cells 8) (q : Source) : (s.setDmem m).latch q = s.latch q := rfl
@[simp] theorem State.stackByte_setDmem (s : State) (m : Cells 8) (q : Nat) : (s.setDmem m).stackByte q = s.stackByte q := rfl
@[simp] theorem State.x_setStack (s : State) (m : Cells 8) (p : Fin 1025) (q : Reg) : (s.setStack m p).x q = s.x q := rfl
@[simp] theorem State.latch_setStack (s : State) (m : Cells 8) (p : Fin 1025) (q : Source) : (s.setStack m p).latch q = s.latch q := rfl
@[simp] theorem State.byteAt_setStack (s : State) (m : Cells 8) (p : Fin 1025) (q : Nat) : (s.setStack m p).byteAt q = s.byteAt q :=
  State.byteAt_congr (s := s) (t := (s.setStack m p)) rfl q
@[simp] theorem State.x_markOor (s : State) (q : Reg) : s.markOor.x q = s.x q := rfl
@[simp] theorem State.latch_markOor (s : State) (q : Source) : s.markOor.latch q = s.latch q := rfl
@[simp] theorem State.byteAt_markOor (s : State) (q : Nat) : s.markOor.byteAt q = s.byteAt q :=
  State.byteAt_congr (s := s) (t := s.markOor) rfl q
@[simp] theorem State.stackByte_markOor (s : State) (q : Nat) : s.markOor.stackByte q = s.stackByte q := rfl
@[simp] theorem State.x_markOvf (s : State) (q : Reg) : s.markOvf.x q = s.x q := rfl
@[simp] theorem State.latch_markOvf (s : State) (q : Source) : s.markOvf.latch q = s.latch q := rfl
@[simp] theorem State.byteAt_markOvf (s : State) (q : Nat) : s.markOvf.byteAt q = s.byteAt q :=
  State.byteAt_congr (s := s) (t := s.markOvf) rfl q
@[simp] theorem State.stackByte_markOvf (s : State) (q : Nat) : s.markOvf.stackByte q = s.stackByte q := rfl
@[simp] theorem State.x_markUnf (s : State) (q : Reg) : s.markUnf.x q = s.x q := rfl
@[simp] theorem State.latch_markUnf (s : State) (q : Source) : s.markUnf.latch q = s.latch q := rfl
@[simp] theorem State.byteAt_markUnf (s : State) (q : Nat) : s.markUnf.byteAt q = s.byteAt q :=
  State.byteAt_congr (s := s) (t := s.markUnf) rfl q
@[simp] theorem State.stackByte_markUnf (s : State) (q : Nat) : s.markUnf.stackByte q = s.stackByte q := rfl

end Sys2Proof.Machine
end

