-- ==== Sys2Proof/Laws/Ops.lean ====
section
/-! SUPPORT. What each shared operation does: its value, and one lemma for each field it leaves alone. -/

namespace Sys2Proof.Machine

/-! ## Data memory -/

@[simp] theorem memWrite_regs (a : Nat) (v : Byte) (s : State) : (memWrite a v s).regs = s.regs := by
  unfold memWrite; split <;> rfl
@[simp] theorem memWrite_pc (a : Nat) (v : Byte) (s : State) : (memWrite a v s).pc = s.pc := by
  unfold memWrite; split <;> rfl
@[simp] theorem memWrite_sr (a : Nat) (v : Byte) (s : State) : (memWrite a v s).sr = s.sr := by
  unfold memWrite; split <;> rfl
@[simp] theorem memWrite_phase (a : Nat) (v : Byte) (s : State) : (memWrite a v s).phase = s.phase := by
  unfold memWrite; split <;> rfl
@[simp] theorem memWrite_ir (a : Nat) (v : Byte) (s : State) : (memWrite a v s).ir = s.ir := by
  unfold memWrite; split <;> rfl
@[simp] theorem memWrite_opc (a : Nat) (v : Byte) (s : State) : (memWrite a v s).opc = s.opc := by
  unfold memWrite; split <;> rfl
@[simp] theorem memWrite_op1 (a : Nat) (v : Byte) (s : State) : (memWrite a v s).op1 = s.op1 := by
  unfold memWrite; split <;> rfl
@[simp] theorem memWrite_op2 (a : Nat) (v : Byte) (s : State) : (memWrite a v s).op2 = s.op2 := by
  unfold memWrite; split <;> rfl
@[simp] theorem memWrite_cia (a : Nat) (v : Byte) (s : State) : (memWrite a v s).cia = s.cia := by
  unfold memWrite; split <;> rfl
@[simp] theorem memWrite_stack (a : Nat) (v : Byte) (s : State) : (memWrite a v s).stack = s.stack := by
  unfold memWrite; split <;> rfl
@[simp] theorem memWrite_sp (a : Nat) (v : Byte) (s : State) : (memWrite a v s).sp = s.sp := by
  unfold memWrite; split <;> rfl
@[simp] theorem memWrite_prev (a : Nat) (v : Byte) (s : State) : (memWrite a v s).prev = s.prev := by
  unfold memWrite; split <;> rfl
@[simp] theorem memWrite_stkOvf (a : Nat) (v : Byte) (s : State) : (memWrite a v s).stkOvf = s.stkOvf := by
  unfold memWrite; split <;> rfl
@[simp] theorem memWrite_stkUnf (a : Nat) (v : Byte) (s : State) : (memWrite a v s).stkUnf = s.stkUnf := by
  unfold memWrite; split <;> rfl
@[simp] theorem memWrite_prog (a : Nat) (v : Byte) (s : State) : (memWrite a v s).prog = s.prog := by
  unfold memWrite; split <;> rfl
@[simp] theorem memWrite_cfg (a : Nat) (v : Byte) (s : State) : (memWrite a v s).cfg = s.cfg := by
  unfold memWrite; split <;> rfl

@[simp] theorem memRead_snd_regs (a : Nat) (s : State) : ((memRead a s).2).regs = s.regs := by
  unfold memRead; split <;> rfl
@[simp] theorem memRead_snd_pc (a : Nat) (s : State) : ((memRead a s).2).pc = s.pc := by
  unfold memRead; split <;> rfl
@[simp] theorem memRead_snd_sr (a : Nat) (s : State) : ((memRead a s).2).sr = s.sr := by
  unfold memRead; split <;> rfl
@[simp] theorem memRead_snd_phase (a : Nat) (s : State) : ((memRead a s).2).phase = s.phase := by
  unfold memRead; split <;> rfl
@[simp] theorem memRead_snd_ir (a : Nat) (s : State) : ((memRead a s).2).ir = s.ir := by
  unfold memRead; split <;> rfl
@[simp] theorem memRead_snd_opc (a : Nat) (s : State) : ((memRead a s).2).opc = s.opc := by
  unfold memRead; split <;> rfl
@[simp] theorem memRead_snd_op1 (a : Nat) (s : State) : ((memRead a s).2).op1 = s.op1 := by
  unfold memRead; split <;> rfl
@[simp] theorem memRead_snd_op2 (a : Nat) (s : State) : ((memRead a s).2).op2 = s.op2 := by
  unfold memRead; split <;> rfl
@[simp] theorem memRead_snd_cia (a : Nat) (s : State) : ((memRead a s).2).cia = s.cia := by
  unfold memRead; split <;> rfl
@[simp] theorem memRead_snd_dmem (a : Nat) (s : State) : ((memRead a s).2).dmem = s.dmem := by
  unfold memRead; split <;> rfl
@[simp] theorem memRead_snd_stack (a : Nat) (s : State) : ((memRead a s).2).stack = s.stack := by
  unfold memRead; split <;> rfl
@[simp] theorem memRead_snd_sp (a : Nat) (s : State) : ((memRead a s).2).sp = s.sp := by
  unfold memRead; split <;> rfl
@[simp] theorem memRead_snd_prev (a : Nat) (s : State) : ((memRead a s).2).prev = s.prev := by
  unfold memRead; split <;> rfl
@[simp] theorem memRead_snd_stkOvf (a : Nat) (s : State) : ((memRead a s).2).stkOvf = s.stkOvf := by
  unfold memRead; split <;> rfl
@[simp] theorem memRead_snd_stkUnf (a : Nat) (s : State) : ((memRead a s).2).stkUnf = s.stkUnf := by
  unfold memRead; split <;> rfl
@[simp] theorem memRead_snd_prog (a : Nat) (s : State) : ((memRead a s).2).prog = s.prog := by
  unfold memRead; split <;> rfl
@[simp] theorem memRead_snd_cfg (a : Nat) (s : State) : ((memRead a s).2).cfg = s.cfg := by
  unfold memRead; split <;> rfl

@[simp] theorem memRead_fst (a : Nat) (s : State) : (memRead a s).1 = s.byteAt a := rfl

/-- A read in range changes nothing; out of range it marks the indicator. -/
theorem memRead_snd_eq (a : Nat) (s : State) : (memRead a s).2 = if a < dmemSize then s else s.markOor := by
  unfold memRead; split <;> rfl

theorem memRead_snd_memOor (a : Nat) (s : State) :
    (memRead a s).2.memOor = (s.memOor || decide (dmemSize ≤ a)) := by
  unfold memRead; split
  · next h => simp [Nat.not_le.mpr h]
  · next h => simp [Nat.not_lt.mp h]

@[simp] theorem byteAt_memRead_snd (a b : Nat) (s : State) : (memRead a s).2.byteAt b = s.byteAt b :=
  State.byteAt_congr (s := s) (t := (memRead a s).2) (by simp) b

/-- What a write leaves at every address, in range or not. -/
theorem byteAt_memWrite (a b : Nat) (v : Byte) (s : State) :
    (memWrite a v s).byteAt b = if b = a ∧ a < dmemSize then v else s.byteAt b := by
  unfold memWrite
  split
  · next ha =>
    by_cases hb : b = a
    · subst hb; simp [State.byteAt_eq, ha]
    · simp [State.byteAt_eq, cellAt_writeCell, hb]
  · next ha => simp [ha]

theorem memWrite_memOor (a : Nat) (v : Byte) (s : State) :
    (memWrite a v s).memOor = (s.memOor || decide (dmemSize ≤ a)) := by
  unfold memWrite; split
  · next h => simp [Nat.not_le.mpr h]
  · next h => simp [Nat.not_lt.mp h]

theorem memWrite_dmem_wf {s : State} (a : Nat) (v : Byte) (h : Cells.Wf dmemSize s.dmem) :
    Cells.Wf dmemSize (memWrite a v s).dmem := by
  unfold memWrite; split
  · next ha => exact writeCell_wf a v ha h
  · exact h

@[simp] theorem memSetBit_regs (a k : Nat) (s : State) : (memSetBit a k s).regs = s.regs := by
  simp [memSetBit]
@[simp] theorem memSetBit_pc (a k : Nat) (s : State) : (memSetBit a k s).pc = s.pc := by
  simp [memSetBit]
@[simp] theorem memSetBit_sr (a k : Nat) (s : State) : (memSetBit a k s).sr = s.sr := by
  simp [memSetBit]
@[simp] theorem memSetBit_phase (a k : Nat) (s : State) : (memSetBit a k s).phase = s.phase := by
  simp [memSetBit]
@[simp] theorem memSetBit_ir (a k : Nat) (s : State) : (memSetBit a k s).ir = s.ir := by
  simp [memSetBit]
@[simp] theorem memSetBit_opc (a k : Nat) (s : State) : (memSetBit a k s).opc = s.opc := by
  simp [memSetBit]
@[simp] theorem memSetBit_op1 (a k : Nat) (s : State) : (memSetBit a k s).op1 = s.op1 := by
  simp [memSetBit]
@[simp] theorem memSetBit_op2 (a k : Nat) (s : State) : (memSetBit a k s).op2 = s.op2 := by
  simp [memSetBit]
@[simp] theorem memSetBit_cia (a k : Nat) (s : State) : (memSetBit a k s).cia = s.cia := by
  simp [memSetBit]
@[simp] theorem memSetBit_stack (a k : Nat) (s : State) : (memSetBit a k s).stack = s.stack := by
  simp [memSetBit]
@[simp] theorem memSetBit_sp (a k : Nat) (s : State) : (memSetBit a k s).sp = s.sp := by
  simp [memSetBit]
@[simp] theorem memSetBit_prev (a k : Nat) (s : State) : (memSetBit a k s).prev = s.prev := by
  simp [memSetBit]
@[simp] theorem memSetBit_stkOvf (a k : Nat) (s : State) : (memSetBit a k s).stkOvf = s.stkOvf := by
  simp [memSetBit]
@[simp] theorem memSetBit_stkUnf (a k : Nat) (s : State) : (memSetBit a k s).stkUnf = s.stkUnf := by
  simp [memSetBit]
@[simp] theorem memSetBit_prog (a k : Nat) (s : State) : (memSetBit a k s).prog = s.prog := by
  simp [memSetBit]
@[simp] theorem memSetBit_cfg (a k : Nat) (s : State) : (memSetBit a k s).cfg = s.cfg := by
  simp [memSetBit]

theorem memSetBit_eq {a : Nat} (k : Nat) (s : State) (ha : a < dmemSize) :
    memSetBit a k s = memWrite a (s.byteAt a ||| (1#8 <<< k)) s := by
  simp [memSetBit, memRead_snd_eq, ha]

theorem byteAt_memSetBit {a : Nat} (k b : Nat) (s : State) (ha : a < dmemSize) :
    (memSetBit a k s).byteAt b = if b = a then s.byteAt a ||| (1#8 <<< k) else s.byteAt b := by
  simp [memSetBit_eq k s ha, byteAt_memWrite, ha]

theorem memSetBit_memOor {a : Nat} (k : Nat) (s : State) (ha : a < dmemSize) : (memSetBit a k s).memOor = s.memOor := by
  simp [memSetBit_eq k s ha, memWrite_memOor, Nat.not_le.mpr ha]

theorem memSetBit_dmem_wf {s : State} (a k : Nat) (h : Cells.Wf dmemSize s.dmem) :
    Cells.Wf dmemSize (memSetBit a k s).dmem :=
  memWrite_dmem_wf a _ (by simpa using h)

@[simp] theorem memClearBit_regs (a k : Nat) (s : State) : (memClearBit a k s).regs = s.regs := by
  simp [memClearBit]
@[simp] theorem memClearBit_pc (a k : Nat) (s : State) : (memClearBit a k s).pc = s.pc := by
  simp [memClearBit]
@[simp] theorem memClearBit_sr (a k : Nat) (s : State) : (memClearBit a k s).sr = s.sr := by
  simp [memClearBit]
@[simp] theorem memClearBit_phase (a k : Nat) (s : State) : (memClearBit a k s).phase = s.phase := by
  simp [memClearBit]
@[simp] theorem memClearBit_ir (a k : Nat) (s : State) : (memClearBit a k s).ir = s.ir := by
  simp [memClearBit]
@[simp] theorem memClearBit_opc (a k : Nat) (s : State) : (memClearBit a k s).opc = s.opc := by
  simp [memClearBit]
@[simp] theorem memClearBit_op1 (a k : Nat) (s : State) : (memClearBit a k s).op1 = s.op1 := by
  simp [memClearBit]
@[simp] theorem memClearBit_op2 (a k : Nat) (s : State) : (memClearBit a k s).op2 = s.op2 := by
  simp [memClearBit]
@[simp] theorem memClearBit_cia (a k : Nat) (s : State) : (memClearBit a k s).cia = s.cia := by
  simp [memClearBit]
@[simp] theorem memClearBit_stack (a k : Nat) (s : State) : (memClearBit a k s).stack = s.stack := by
  simp [memClearBit]
@[simp] theorem memClearBit_sp (a k : Nat) (s : State) : (memClearBit a k s).sp = s.sp := by
  simp [memClearBit]
@[simp] theorem memClearBit_prev (a k : Nat) (s : State) : (memClearBit a k s).prev = s.prev := by
  simp [memClearBit]
@[simp] theorem memClearBit_stkOvf (a k : Nat) (s : State) : (memClearBit a k s).stkOvf = s.stkOvf := by
  simp [memClearBit]
@[simp] theorem memClearBit_stkUnf (a k : Nat) (s : State) : (memClearBit a k s).stkUnf = s.stkUnf := by
  simp [memClearBit]
@[simp] theorem memClearBit_prog (a k : Nat) (s : State) : (memClearBit a k s).prog = s.prog := by
  simp [memClearBit]
@[simp] theorem memClearBit_cfg (a k : Nat) (s : State) : (memClearBit a k s).cfg = s.cfg := by
  simp [memClearBit]

theorem memClearBit_eq {a : Nat} (k : Nat) (s : State) (ha : a < dmemSize) :
    memClearBit a k s = memWrite a (s.byteAt a &&& ~~~(1#8 <<< k)) s := by
  simp [memClearBit, memRead_snd_eq, ha]

theorem byteAt_memClearBit {a : Nat} (k b : Nat) (s : State) (ha : a < dmemSize) :
    (memClearBit a k s).byteAt b = if b = a then s.byteAt a &&& ~~~(1#8 <<< k) else s.byteAt b := by
  simp [memClearBit_eq k s ha, byteAt_memWrite, ha]

theorem memClearBit_memOor {a : Nat} (k : Nat) (s : State) (ha : a < dmemSize) : (memClearBit a k s).memOor = s.memOor := by
  simp [memClearBit_eq k s ha, memWrite_memOor, Nat.not_le.mpr ha]

theorem memClearBit_dmem_wf {s : State} (a k : Nat) (h : Cells.Wf dmemSize s.dmem) :
    Cells.Wf dmemSize (memClearBit a k s).dmem :=
  memWrite_dmem_wf a _ (by simpa using h)

theorem getLsbD_setBit (v : Byte) (k j : Nat) (hj : j < 8) :
    (v ||| (1#8 <<< k)).getLsbD j = (v.getLsbD j || decide (j = k)) := by
  rw [BitVec.getLsbD_or, BitVec.getLsbD_shiftLeft]
  by_cases h : j = k
  · subst h; simp [hj]
  · by_cases hlt : j < k
    · simp [h, hlt]
    · have : j - k ≠ 0 := by omega
      simp [h, this]

theorem getLsbD_clearBit (v : Byte) (k j : Nat) (hj : j < 8) :
    (v &&& ~~~(1#8 <<< k)).getLsbD j = (v.getLsbD j && decide (j ≠ k)) := by
  rw [BitVec.getLsbD_and, BitVec.getLsbD_not, BitVec.getLsbD_shiftLeft]
  by_cases h : j = k
  · subst h; simp
  · by_cases hlt : j < k
    · simp [h, hlt, hj]
    · have : j - k ≠ 0 := by omega
      simp [h, this, hj]

/-! ## The stack -/

@[simp] theorem push_regs (v : Byte) (s : State) : (push v s).regs = s.regs := by
  unfold push; split <;> rfl
@[simp] theorem push_pc (v : Byte) (s : State) : (push v s).pc = s.pc := by
  unfold push; split <;> rfl
@[simp] theorem push_sr (v : Byte) (s : State) : (push v s).sr = s.sr := by
  unfold push; split <;> rfl
@[simp] theorem push_phase (v : Byte) (s : State) : (push v s).phase = s.phase := by
  unfold push; split <;> rfl
@[simp] theorem push_ir (v : Byte) (s : State) : (push v s).ir = s.ir := by
  unfold push; split <;> rfl
@[simp] theorem push_opc (v : Byte) (s : State) : (push v s).opc = s.opc := by
  unfold push; split <;> rfl
@[simp] theorem push_op1 (v : Byte) (s : State) : (push v s).op1 = s.op1 := by
  unfold push; split <;> rfl
@[simp] theorem push_op2 (v : Byte) (s : State) : (push v s).op2 = s.op2 := by
  unfold push; split <;> rfl
@[simp] theorem push_cia (v : Byte) (s : State) : (push v s).cia = s.cia := by
  unfold push; split <;> rfl
@[simp] theorem push_dmem (v : Byte) (s : State) : (push v s).dmem = s.dmem := by
  unfold push; split <;> rfl
@[simp] theorem push_prev (v : Byte) (s : State) : (push v s).prev = s.prev := by
  unfold push; split <;> rfl
@[simp] theorem push_stkUnf (v : Byte) (s : State) : (push v s).stkUnf = s.stkUnf := by
  unfold push; split <;> rfl
@[simp] theorem push_memOor (v : Byte) (s : State) : (push v s).memOor = s.memOor := by
  unfold push; split <;> rfl
@[simp] theorem push_prog (v : Byte) (s : State) : (push v s).prog = s.prog := by
  unfold push; split <;> rfl
@[simp] theorem push_cfg (v : Byte) (s : State) : (push v s).cfg = s.cfg := by
  unfold push; split <;> rfl

@[simp] theorem pop_snd_regs (s : State) : ((pop s).2).regs = s.regs := by
  unfold pop; split <;> rfl
@[simp] theorem pop_snd_pc (s : State) : ((pop s).2).pc = s.pc := by
  unfold pop; split <;> rfl
@[simp] theorem pop_snd_sr (s : State) : ((pop s).2).sr = s.sr := by
  unfold pop; split <;> rfl
@[simp] theorem pop_snd_phase (s : State) : ((pop s).2).phase = s.phase := by
  unfold pop; split <;> rfl
@[simp] theorem pop_snd_ir (s : State) : ((pop s).2).ir = s.ir := by
  unfold pop; split <;> rfl
@[simp] theorem pop_snd_opc (s : State) : ((pop s).2).opc = s.opc := by
  unfold pop; split <;> rfl
@[simp] theorem pop_snd_op1 (s : State) : ((pop s).2).op1 = s.op1 := by
  unfold pop; split <;> rfl
@[simp] theorem pop_snd_op2 (s : State) : ((pop s).2).op2 = s.op2 := by
  unfold pop; split <;> rfl
@[simp] theorem pop_snd_cia (s : State) : ((pop s).2).cia = s.cia := by
  unfold pop; split <;> rfl
@[simp] theorem pop_snd_dmem (s : State) : ((pop s).2).dmem = s.dmem := by
  unfold pop; split <;> rfl
@[simp] theorem pop_snd_stack (s : State) : ((pop s).2).stack = s.stack := by
  unfold pop; split <;> rfl
@[simp] theorem pop_snd_prev (s : State) : ((pop s).2).prev = s.prev := by
  unfold pop; split <;> rfl
@[simp] theorem pop_snd_stkOvf (s : State) : ((pop s).2).stkOvf = s.stkOvf := by
  unfold pop; split <;> rfl
@[simp] theorem pop_snd_memOor (s : State) : ((pop s).2).memOor = s.memOor := by
  unfold pop; split <;> rfl
@[simp] theorem pop_snd_prog (s : State) : ((pop s).2).prog = s.prog := by
  unfold pop; split <;> rfl
@[simp] theorem pop_snd_cfg (s : State) : ((pop s).2).cfg = s.cfg := by
  unfold pop; split <;> rfl

/-- A push on a full stack only marks the indicator (20_memory R60). -/
theorem push_full (v : Byte) {s : State} (h : s.sp.val = 0) : push v s = s.markOvf := by
  simp [push, h]

/-- A push with room decrements the pointer and stores (20_memory R60). -/
theorem push_room (v : Byte) {s : State} (h : s.sp.val ≠ 0) :
    push v s = s.setStack (writeCell s.stack (s.sp.val - 1) v) ⟨s.sp.val - 1, by omega⟩ := by
  simp [push, h]

/-- A pop of the empty stack gives the sentinel and marks the indicator (20_memory R61). -/
theorem pop_empty {s : State} (h : s.sp.val = stackCap) : pop s = (0x00#8, s.markUnf) := by
  simp [pop, h]

/-- A pop of a stack that is not empty gives the top byte and moves the pointer (20_memory R61). -/
theorem pop_nonempty {s : State} (h : s.sp.val ≠ stackCap) :
    pop s = (s.stackByte s.sp.val,
      s.setStack s.stack ⟨s.sp.val + 1, by simp only [stackCap] at h; omega⟩) := by
  simp [pop, h, State.stackByte]

theorem push_stack_wf {s : State} (v : Byte) (h : Cells.Wf stackCap s.stack) : Cells.Wf stackCap (push v s).stack := by
  unfold push; split
  · exact h
  · exact writeCell_wf _ v (by have := s.sp.isLt; simp only [stackCap]; omega) h

@[simp] theorem x_push (v : Byte) (s : State) (r : Reg) : (push v s).x r = s.x r :=
  State.x_congr (by simp) r

@[simp] theorem byteAt_push (v : Byte) (s : State) (a : Nat) : (push v s).byteAt a = s.byteAt a :=
  State.byteAt_congr (s := s) (t := push v s) (by simp) a

@[simp] theorem x_pop_snd (s : State) (r : Reg) : (pop s).2.x r = s.x r :=
  State.x_congr (by simp) r

@[simp] theorem byteAt_pop_snd (s : State) (a : Nat) : (pop s).2.byteAt a = s.byteAt a :=
  State.byteAt_congr (s := s) (t := (pop s).2) (by simp) a

@[simp] theorem stackByte_pop_snd (s : State) (j : Nat) : (pop s).2.stackByte j = s.stackByte j :=
  State.stackByte_congr (by simp) j

@[simp] theorem x_memWrite (a : Nat) (v : Byte) (s : State) (r : Reg) : (memWrite a v s).x r = s.x r :=
  State.x_congr (by simp) r

@[simp] theorem x_memRead_snd (a : Nat) (s : State) (r : Reg) : (memRead a s).2.x r = s.x r :=
  State.x_congr (by simp) r

@[simp] theorem stackByte_memWrite (a : Nat) (v : Byte) (s : State) (j : Nat) :
    (memWrite a v s).stackByte j = s.stackByte j :=
  State.stackByte_congr (by simp) j

@[simp] theorem stackByte_memRead_snd (a : Nat) (s : State) (j : Nat) :
    (memRead a s).2.stackByte j = s.stackByte j :=
  State.stackByte_congr (by simp) j

/-! ## Interrupt entry and return -/

@[simp] theorem service_regs (n : Source) (s : State) : (service n s).regs = s.regs := by
  simp [service]
@[simp] theorem service_phase (n : Source) (s : State) : (service n s).phase = s.phase := by
  simp [service]
@[simp] theorem service_ir (n : Source) (s : State) : (service n s).ir = s.ir := by
  simp [service]
@[simp] theorem service_opc (n : Source) (s : State) : (service n s).opc = s.opc := by
  simp [service]
@[simp] theorem service_op1 (n : Source) (s : State) : (service n s).op1 = s.op1 := by
  simp [service]
@[simp] theorem service_op2 (n : Source) (s : State) : (service n s).op2 = s.op2 := by
  simp [service]
@[simp] theorem service_cia (n : Source) (s : State) : (service n s).cia = s.cia := by
  simp [service]
@[simp] theorem service_prev (n : Source) (s : State) : (service n s).prev = s.prev := by
  simp [service]
@[simp] theorem service_stkUnf (n : Source) (s : State) : (service n s).stkUnf = s.stkUnf := by
  simp [service]
@[simp] theorem service_prog (n : Source) (s : State) : (service n s).prog = s.prog := by
  simp [service]
@[simp] theorem service_cfg (n : Source) (s : State) : (service n s).cfg = s.cfg := by
  simp [service]

@[simp] theorem service_pc (n : Source) (s : State) : (service n s).pc = s.vector n := by
  simp [service, State.vector]

@[simp] theorem service_sr (n : Source) (s : State) : (service n s).sr = { s.sr with i := false } := by
  simp [service]

theorem service_dmem_wf {s : State} (n : Source) (h : Cells.Wf dmemSize s.dmem) :
    Cells.Wf dmemSize (service n s).dmem := by
  simpa [service] using memClearBit_dmem_wf pcifrAddr (pcifBit n) h

theorem service_stack_wf {s : State} (n : Source) (h : Cells.Wf stackCap s.stack) :
    Cells.Wf stackCap (service n s).stack := by
  simpa [service] using push_stack_wf _ (by simpa using h)

@[simp] theorem popPc_regs (s : State) : (popPc s).regs = s.regs := by
  simp [popPc]
@[simp] theorem popPc_sr (s : State) : (popPc s).sr = s.sr := by
  simp [popPc]
@[simp] theorem popPc_phase (s : State) : (popPc s).phase = s.phase := by
  simp [popPc]
@[simp] theorem popPc_ir (s : State) : (popPc s).ir = s.ir := by
  simp [popPc]
@[simp] theorem popPc_opc (s : State) : (popPc s).opc = s.opc := by
  simp [popPc]
@[simp] theorem popPc_op1 (s : State) : (popPc s).op1 = s.op1 := by
  simp [popPc]
@[simp] theorem popPc_op2 (s : State) : (popPc s).op2 = s.op2 := by
  simp [popPc]
@[simp] theorem popPc_cia (s : State) : (popPc s).cia = s.cia := by
  simp [popPc]
@[simp] theorem popPc_dmem (s : State) : (popPc s).dmem = s.dmem := by
  simp [popPc]
@[simp] theorem popPc_stack (s : State) : (popPc s).stack = s.stack := by
  simp [popPc]
@[simp] theorem popPc_prev (s : State) : (popPc s).prev = s.prev := by
  simp [popPc]
@[simp] theorem popPc_stkOvf (s : State) : (popPc s).stkOvf = s.stkOvf := by
  simp [popPc]
@[simp] theorem popPc_memOor (s : State) : (popPc s).memOor = s.memOor := by
  simp [popPc]
@[simp] theorem popPc_prog (s : State) : (popPc s).prog = s.prog := by
  simp [popPc]
@[simp] theorem popPc_cfg (s : State) : (popPc s).cfg = s.cfg := by
  simp [popPc]

@[simp] theorem returnFromInterrupt_regs (s : State) : (returnFromInterrupt s).regs = s.regs := by
  simp [returnFromInterrupt]
@[simp] theorem returnFromInterrupt_phase (s : State) : (returnFromInterrupt s).phase = s.phase := by
  simp [returnFromInterrupt]
@[simp] theorem returnFromInterrupt_ir (s : State) : (returnFromInterrupt s).ir = s.ir := by
  simp [returnFromInterrupt]
@[simp] theorem returnFromInterrupt_opc (s : State) : (returnFromInterrupt s).opc = s.opc := by
  simp [returnFromInterrupt]
@[simp] theorem returnFromInterrupt_op1 (s : State) : (returnFromInterrupt s).op1 = s.op1 := by
  simp [returnFromInterrupt]
@[simp] theorem returnFromInterrupt_op2 (s : State) : (returnFromInterrupt s).op2 = s.op2 := by
  simp [returnFromInterrupt]
@[simp] theorem returnFromInterrupt_cia (s : State) : (returnFromInterrupt s).cia = s.cia := by
  simp [returnFromInterrupt]
@[simp] theorem returnFromInterrupt_dmem (s : State) : (returnFromInterrupt s).dmem = s.dmem := by
  simp [returnFromInterrupt]
@[simp] theorem returnFromInterrupt_stack (s : State) : (returnFromInterrupt s).stack = s.stack := by
  simp [returnFromInterrupt]
@[simp] theorem returnFromInterrupt_prev (s : State) : (returnFromInterrupt s).prev = s.prev := by
  simp [returnFromInterrupt]
@[simp] theorem returnFromInterrupt_stkOvf (s : State) : (returnFromInterrupt s).stkOvf = s.stkOvf := by
  simp [returnFromInterrupt]
@[simp] theorem returnFromInterrupt_memOor (s : State) : (returnFromInterrupt s).memOor = s.memOor := by
  simp [returnFromInterrupt]
@[simp] theorem returnFromInterrupt_prog (s : State) : (returnFromInterrupt s).prog = s.prog := by
  simp [returnFromInterrupt]
@[simp] theorem returnFromInterrupt_cfg (s : State) : (returnFromInterrupt s).cfg = s.cfg := by
  simp [returnFromInterrupt]

/-! ## The full reset -/

/-- The state after a full reset depends on nothing but the program and the parameters (70 R262). -/
theorem engineReset_congr {s t : State} (hp : t.prog = s.prog) (hc : t.cfg = s.cfg) : engineReset t = engineReset s := by
  simp [engineReset, hp, hc]

@[simp] theorem engineReset_prog (s : State) : (engineReset s).prog = s.prog := rfl

@[simp] theorem engineReset_cfg (s : State) : (engineReset s).cfg = s.cfg := rfl

@[simp] theorem engineReset_x (s : State) (r : Reg) : (engineReset s).x r = 0#8 := by
  simp [engineReset, State.reset, State.x]

@[simp] theorem engineReset_latch (s : State) (n : Source) : (engineReset s).latch n = 0#8 := by
  simp [engineReset, State.reset, State.latch]

@[simp] theorem engineReset_byteAt (s : State) (a : Nat) : (engineReset s).byteAt a = 0#8 := by
  rw [State.byteAt_eq]; split <;> rfl

@[simp] theorem engineReset_stackByte (s : State) (j : Nat) : (engineReset s).stackByte j = 0#8 := rfl

end Sys2Proof.Machine
end

