-- ==== Sys2Proof/Laws/ControlUnit.lean ====
section
/-! SUPPORT. The interrupt check, the monitors and the control unit's transitions: what each can do, and what each leaves
alone. -/

namespace Sys2Proof.Machine

theorem pcifr_inRange : pcifrAddr < dmemSize := by decide

/-! ## The interrupt check -/

/-- The check either services the accepted source or changes nothing (60_exceptions R240). -/
theorem checkInterrupt_cases (s : State) :
    (accepted s = none ∧ checkInterrupt s = s) ∨ ∃ n, accepted s = some n ∧ checkInterrupt s = service n s := by
  unfold checkInterrupt
  cases h : accepted s with
  | none   => exact .inl ⟨rfl, rfl⟩
  | some n => exact .inr ⟨n, rfl, rfl⟩

/-- With I clear nothing is accepted (60_exceptions R240). -/
theorem accepted_disabled {s : State} (h : s.sr.i = false) : accepted s = none := by
  simp [accepted, h]

theorem checkInterrupt_disabled {s : State} (h : s.sr.i = false) : checkInterrupt s = s := by
  simp [checkInterrupt, accepted_disabled h]

/-- The check looks only at I and at data memory. -/
theorem accepted_congr {s t : State} (hi : t.sr.i = s.sr.i) (hm : t.dmem = s.dmem) : accepted t = accepted s := by
  have hb : ∀ a, t.byteAt a = s.byteAt a := State.byteAt_congr hm
  simp [accepted, pending, enabled, hi, hb]

@[simp] theorem checkInterrupt_regs (s : State) : (checkInterrupt s).regs = s.regs := by
  unfold checkInterrupt; split <;> simp
@[simp] theorem checkInterrupt_phase (s : State) : (checkInterrupt s).phase = s.phase := by
  unfold checkInterrupt; split <;> simp
@[simp] theorem checkInterrupt_ir (s : State) : (checkInterrupt s).ir = s.ir := by
  unfold checkInterrupt; split <;> simp
@[simp] theorem checkInterrupt_opc (s : State) : (checkInterrupt s).opc = s.opc := by
  unfold checkInterrupt; split <;> simp
@[simp] theorem checkInterrupt_op1 (s : State) : (checkInterrupt s).op1 = s.op1 := by
  unfold checkInterrupt; split <;> simp
@[simp] theorem checkInterrupt_op2 (s : State) : (checkInterrupt s).op2 = s.op2 := by
  unfold checkInterrupt; split <;> simp
@[simp] theorem checkInterrupt_cia (s : State) : (checkInterrupt s).cia = s.cia := by
  unfold checkInterrupt; split <;> simp
@[simp] theorem checkInterrupt_prev (s : State) : (checkInterrupt s).prev = s.prev := by
  unfold checkInterrupt; split <;> simp
@[simp] theorem checkInterrupt_stkUnf (s : State) : (checkInterrupt s).stkUnf = s.stkUnf := by
  unfold checkInterrupt; split <;> simp
@[simp] theorem checkInterrupt_prog (s : State) : (checkInterrupt s).prog = s.prog := by
  unfold checkInterrupt; split <;> simp
@[simp] theorem checkInterrupt_cfg (s : State) : (checkInterrupt s).cfg = s.cfg := by
  unfold checkInterrupt; split <;> simp

/-! ## The monitors -/

@[simp] theorem monitor_regs (n : Source) (s : State) : (monitor n s).regs = s.regs := by
  unfold monitor; split <;> simp
@[simp] theorem monitor_pc (n : Source) (s : State) : (monitor n s).pc = s.pc := by
  unfold monitor; split <;> simp
@[simp] theorem monitor_sr (n : Source) (s : State) : (monitor n s).sr = s.sr := by
  unfold monitor; split <;> simp
@[simp] theorem monitor_phase (n : Source) (s : State) : (monitor n s).phase = s.phase := by
  unfold monitor; split <;> simp
@[simp] theorem monitor_ir (n : Source) (s : State) : (monitor n s).ir = s.ir := by
  unfold monitor; split <;> simp
@[simp] theorem monitor_opc (n : Source) (s : State) : (monitor n s).opc = s.opc := by
  unfold monitor; split <;> simp
@[simp] theorem monitor_op1 (n : Source) (s : State) : (monitor n s).op1 = s.op1 := by
  unfold monitor; split <;> simp
@[simp] theorem monitor_op2 (n : Source) (s : State) : (monitor n s).op2 = s.op2 := by
  unfold monitor; split <;> simp
@[simp] theorem monitor_cia (n : Source) (s : State) : (monitor n s).cia = s.cia := by
  unfold monitor; split <;> simp
@[simp] theorem monitor_stack (n : Source) (s : State) : (monitor n s).stack = s.stack := by
  unfold monitor; split <;> simp
@[simp] theorem monitor_sp (n : Source) (s : State) : (monitor n s).sp = s.sp := by
  unfold monitor; split <;> simp
@[simp] theorem monitor_stkOvf (n : Source) (s : State) : (monitor n s).stkOvf = s.stkOvf := by
  unfold monitor; split <;> simp
@[simp] theorem monitor_stkUnf (n : Source) (s : State) : (monitor n s).stkUnf = s.stkUnf := by
  unfold monitor; split <;> simp
@[simp] theorem monitor_prog (n : Source) (s : State) : (monitor n s).prog = s.prog := by
  unfold monitor; split <;> simp
@[simp] theorem monitor_cfg (n : Source) (s : State) : (monitor n s).cfg = s.cfg := by
  unfold monitor; split <;> simp

theorem monitor_memOor (n : Source) (s : State) : (monitor n s).memOor = s.memOor := by
  unfold monitor; split <;> simp [memSetBit_memOor _ _ pcifr_inRange]

/-- What a monitor leaves at every address: the pending flag raised on a change (60_exceptions R236). -/
theorem byteAt_monitor (n : Source) (s : State) (a : Nat) :
    (monitor n s).byteAt a =
      if a = pcifrAddr ∧ pinChanged s n = true then s.byteAt pcifrAddr ||| (1#8 <<< pcifBit n) else s.byteAt a := by
  unfold monitor
  cases h : pinChanged s n with
  | true  => simp [byteAt_memSetBit _ _ _ pcifr_inRange]
  | false => simp

theorem latch_monitor (n m : Source) (s : State) :
    (monitor n s).latch m = if m = n then s.byteAt (pinAddr n) else s.latch m := by
  unfold monitor
  rw [State.latch_setLatch]
  split
  · rfl
  · split
    · exact State.latch_congr (by simp) m
    · rfl

theorem monitor_dmem_wf {s : State} (n : Source) (h : Cells.Wf dmemSize s.dmem) :
    Cells.Wf dmemSize (monitor n s).dmem := by
  unfold monitor; split
  · simpa using memSetBit_dmem_wf pcifrAddr (pcifBit n) h
  · exact h

@[simp] theorem monitors_regs (s : State) : (monitors s).regs = s.regs := by
  simp [monitors]
@[simp] theorem monitors_pc (s : State) : (monitors s).pc = s.pc := by
  simp [monitors]
@[simp] theorem monitors_sr (s : State) : (monitors s).sr = s.sr := by
  simp [monitors]
@[simp] theorem monitors_phase (s : State) : (monitors s).phase = s.phase := by
  simp [monitors]
@[simp] theorem monitors_ir (s : State) : (monitors s).ir = s.ir := by
  simp [monitors]
@[simp] theorem monitors_opc (s : State) : (monitors s).opc = s.opc := by
  simp [monitors]
@[simp] theorem monitors_op1 (s : State) : (monitors s).op1 = s.op1 := by
  simp [monitors]
@[simp] theorem monitors_op2 (s : State) : (monitors s).op2 = s.op2 := by
  simp [monitors]
@[simp] theorem monitors_cia (s : State) : (monitors s).cia = s.cia := by
  simp [monitors]
@[simp] theorem monitors_stack (s : State) : (monitors s).stack = s.stack := by
  simp [monitors]
@[simp] theorem monitors_sp (s : State) : (monitors s).sp = s.sp := by
  simp [monitors]
@[simp] theorem monitors_stkOvf (s : State) : (monitors s).stkOvf = s.stkOvf := by
  simp [monitors]
@[simp] theorem monitors_stkUnf (s : State) : (monitors s).stkUnf = s.stkUnf := by
  simp [monitors]
@[simp] theorem monitors_prog (s : State) : (monitors s).prog = s.prog := by
  simp [monitors]
@[simp] theorem monitors_cfg (s : State) : (monitors s).cfg = s.cfg := by
  simp [monitors]

theorem monitors_memOor (s : State) : (monitors s).memOor = s.memOor := by
  simp [monitors, monitor_memOor]

/-- No monitor writes a byte other than `PCIFR` (60_exceptions R236). -/
theorem byteAt_monitors_ne (s : State) {a : Nat} (h : a ≠ pcifrAddr) : (monitors s).byteAt a = s.byteAt a := by
  simp [monitors, byteAt_monitor, h]

theorem monitors_dmem_wf {s : State} (h : Cells.Wf dmemSize s.dmem) : Cells.Wf dmemSize (monitors s).dmem :=
  monitor_dmem_wf 2 (monitor_dmem_wf 1 (monitor_dmem_wf 0 h))

/-! ## The tail of EXECUTE -/

@[simp] theorem executeTail_regs (s : State) : (executeTail s).regs = s.regs := by
  simp [executeTail]
@[simp] theorem executeTail_ir (s : State) : (executeTail s).ir = s.ir := by
  simp [executeTail]
@[simp] theorem executeTail_opc (s : State) : (executeTail s).opc = s.opc := by
  simp [executeTail]
@[simp] theorem executeTail_op1 (s : State) : (executeTail s).op1 = s.op1 := by
  simp [executeTail]
@[simp] theorem executeTail_op2 (s : State) : (executeTail s).op2 = s.op2 := by
  simp [executeTail]
@[simp] theorem executeTail_cia (s : State) : (executeTail s).cia = s.cia := by
  simp [executeTail]
@[simp] theorem executeTail_stkUnf (s : State) : (executeTail s).stkUnf = s.stkUnf := by
  simp [executeTail]
@[simp] theorem executeTail_prog (s : State) : (executeTail s).prog = s.prog := by
  simp [executeTail]
@[simp] theorem executeTail_cfg (s : State) : (executeTail s).cfg = s.cfg := by
  simp [executeTail]

@[simp] theorem executeTail_phase (s : State) : (executeTail s).phase = .fetch := by
  simp [executeTail]

theorem executeTail_dmem_wf {s : State} (h : Cells.Wf dmemSize s.dmem) : Cells.Wf dmemSize (executeTail s).dmem := by
  refine monitors_dmem_wf ?_
  rcases checkInterrupt_cases (s.setPhase .fetch) with ⟨-, e⟩ | ⟨n, -, e⟩ <;> rw [e]
  · exact h
  · exact service_dmem_wf n h

theorem executeTail_stack_wf {s : State} (h : Cells.Wf stackCap s.stack) : Cells.Wf stackCap (executeTail s).stack := by
  rw [executeTail, monitors_stack]
  rcases checkInterrupt_cases (s.setPhase .fetch) with ⟨-, e⟩ | ⟨n, -, e⟩ <;> rw [e]
  · exact h
  · exact service_stack_wf n h

/-- The tail changes no arithmetic flag. -/
theorem executeTail_sr (s : State) :
    (executeTail s).sr = s.sr ∨ (executeTail s).sr = { s.sr with i := false } := by
  rw [executeTail, monitors_sr]
  rcases checkInterrupt_cases (s.setPhase .fetch) with ⟨-, e⟩ | ⟨n, -, e⟩ <;> rw [e]
  · exact .inl rfl
  · exact .inr (service_sr n _)

/-! ## Transitions -/

/-- A dispatch either runs the decoded instruction, or resets, or refuses a reserved encoding (40_control_unit R104). -/
theorem dispatch_cases (s : State) :
    (∃ i, decodeFields s.opc s.op1 s.op2 = .instr i ∧ dispatch s = exec i s) ∨
    (∃ o, decodeFields s.opc s.op1 s.op2 = .unrecognized o ∧ dispatch s = .next (engineReset s)) ∨
    (∃ b, decodeFields s.opc s.op1 s.op2 = .reservedRegister b ∧ dispatch s = .refused (.reservedRegister b)) ∨
    (∃ b, decodeFields s.opc s.op1 s.op2 = .reservedPointer b ∧ dispatch s = .refused (.reservedPointer b)) := by
  unfold dispatch
  cases decodeFields s.opc s.op1 s.op2 with
  | instr i            => exact .inl ⟨i, rfl, rfl⟩
  | unrecognized o     => exact .inr (.inl ⟨o, rfl, rfl⟩)
  | reservedRegister b => exact .inr (.inr (.inl ⟨b, rfl, rfl⟩))
  | reservedPointer b  => exact .inr (.inr (.inr ⟨b, rfl, rfl⟩))

/-- EXECUTE answers a next state exactly when its dispatch does, and then the tail's (40_control_unit R103). -/
theorem doExecute_next {s u : State} :
    doExecute s = .next u ↔ ∃ t, dispatch s = .next t ∧ u = executeTail t := by
  unfold doExecute andThen
  cases dispatch s with
  | next t    => simp [eq_comm]
  | fault e   => simp
  | refused e => simp

/-- What a transition can do when it answers a next state (40_control_unit R100). -/
theorem transition_cases {s t : State} (h : transition s = .next t) :
    (s.phase = .fetch ∧ t = doFetch s) ∨ (s.phase = .decode ∧ t = doDecode s) ∨
    (s.phase = .execute ∧ doExecute s = .next t) ∨ (s.phase = .invalid ∧ t = engineReset s) := by
  unfold transition at h
  cases hp : s.phase <;> simp only [hp] at h
  · exact .inl ⟨rfl, (Host.Outcome.next.inj h).symm⟩
  · exact .inr (.inl ⟨rfl, (Host.Outcome.next.inj h).symm⟩)
  · exact .inr (.inr (.inl ⟨rfl, h⟩))
  · exact .inr (.inr (.inr ⟨rfl, (Host.Outcome.next.inj h).symm⟩))

/-- What a whole instruction can do when it answers a next state (40_control_unit R106). -/
theorem runInstruction_cases {s t : State} (h : runInstruction s = .next t) :
    (s.phase = .fetch ∧ doExecute (fetchDecode s) = .next t) ∨ (s.phase = .invalid ∧ t = engineReset s) := by
  unfold runInstruction at h
  cases hp : s.phase <;> simp only [hp] at h
  · exact .inl ⟨rfl, h⟩
  · cases h
  · cases h
  · exact .inr ⟨rfl, (Host.Outcome.next.inj h).symm⟩

@[simp] theorem doFetch_regs (s : State) : (doFetch s).regs = s.regs := by
  rfl
@[simp] theorem doFetch_sr (s : State) : (doFetch s).sr = s.sr := by
  rfl
@[simp] theorem doFetch_opc (s : State) : (doFetch s).opc = s.opc := by
  rfl
@[simp] theorem doFetch_op1 (s : State) : (doFetch s).op1 = s.op1 := by
  rfl
@[simp] theorem doFetch_op2 (s : State) : (doFetch s).op2 = s.op2 := by
  rfl
@[simp] theorem doFetch_dmem (s : State) : (doFetch s).dmem = s.dmem := by
  rfl
@[simp] theorem doFetch_stack (s : State) : (doFetch s).stack = s.stack := by
  rfl
@[simp] theorem doFetch_sp (s : State) : (doFetch s).sp = s.sp := by
  rfl
@[simp] theorem doFetch_prev (s : State) : (doFetch s).prev = s.prev := by
  rfl
@[simp] theorem doFetch_stkOvf (s : State) : (doFetch s).stkOvf = s.stkOvf := by
  rfl
@[simp] theorem doFetch_stkUnf (s : State) : (doFetch s).stkUnf = s.stkUnf := by
  rfl
@[simp] theorem doFetch_memOor (s : State) : (doFetch s).memOor = s.memOor := by
  rfl
@[simp] theorem doFetch_prog (s : State) : (doFetch s).prog = s.prog := by
  rfl
@[simp] theorem doFetch_cfg (s : State) : (doFetch s).cfg = s.cfg := by
  rfl

@[simp] theorem doDecode_regs (s : State) : (doDecode s).regs = s.regs := by
  rfl
@[simp] theorem doDecode_pc (s : State) : (doDecode s).pc = s.pc := by
  rfl
@[simp] theorem doDecode_sr (s : State) : (doDecode s).sr = s.sr := by
  rfl
@[simp] theorem doDecode_ir (s : State) : (doDecode s).ir = s.ir := by
  rfl
@[simp] theorem doDecode_cia (s : State) : (doDecode s).cia = s.cia := by
  rfl
@[simp] theorem doDecode_dmem (s : State) : (doDecode s).dmem = s.dmem := by
  rfl
@[simp] theorem doDecode_stack (s : State) : (doDecode s).stack = s.stack := by
  rfl
@[simp] theorem doDecode_sp (s : State) : (doDecode s).sp = s.sp := by
  rfl
@[simp] theorem doDecode_prev (s : State) : (doDecode s).prev = s.prev := by
  rfl
@[simp] theorem doDecode_stkOvf (s : State) : (doDecode s).stkOvf = s.stkOvf := by
  rfl
@[simp] theorem doDecode_stkUnf (s : State) : (doDecode s).stkUnf = s.stkUnf := by
  rfl
@[simp] theorem doDecode_memOor (s : State) : (doDecode s).memOor = s.memOor := by
  rfl
@[simp] theorem doDecode_prog (s : State) : (doDecode s).prog = s.prog := by
  rfl
@[simp] theorem doDecode_cfg (s : State) : (doDecode s).cfg = s.cfg := by
  rfl

@[simp] theorem fetchDecode_regs (s : State) : (fetchDecode s).regs = s.regs := by
  rfl
@[simp] theorem fetchDecode_sr (s : State) : (fetchDecode s).sr = s.sr := by
  rfl
@[simp] theorem fetchDecode_dmem (s : State) : (fetchDecode s).dmem = s.dmem := by
  rfl
@[simp] theorem fetchDecode_stack (s : State) : (fetchDecode s).stack = s.stack := by
  rfl
@[simp] theorem fetchDecode_sp (s : State) : (fetchDecode s).sp = s.sp := by
  rfl
@[simp] theorem fetchDecode_prev (s : State) : (fetchDecode s).prev = s.prev := by
  rfl
@[simp] theorem fetchDecode_stkOvf (s : State) : (fetchDecode s).stkOvf = s.stkOvf := by
  rfl
@[simp] theorem fetchDecode_stkUnf (s : State) : (fetchDecode s).stkUnf = s.stkUnf := by
  rfl
@[simp] theorem fetchDecode_memOor (s : State) : (fetchDecode s).memOor = s.memOor := by
  rfl
@[simp] theorem fetchDecode_prog (s : State) : (fetchDecode s).prog = s.prog := by
  rfl
@[simp] theorem fetchDecode_cfg (s : State) : (fetchDecode s).cfg = s.cfg := by
  rfl

@[simp] theorem fetchDecode_pc (s : State) : (fetchDecode s).pc = s.pc + 1#8 := rfl

@[simp] theorem fetchDecode_phase (s : State) : (fetchDecode s).phase = .execute := rfl

@[simp] theorem x_fetchDecode (s : State) (r : Reg) : (fetchDecode s).x r = s.x r := rfl

@[simp] theorem byteAt_fetchDecode (s : State) (a : Nat) : (fetchDecode s).byteAt a = s.byteAt a :=
  State.byteAt_congr (s := s) (t := fetchDecode s) rfl a

/-- EXECUTE decodes the word that FETCH read (40_control_unit R101, R102). -/
theorem decodeFields_fetchDecode (s : State) :
    decodeFields (fetchDecode s).opc (fetchDecode s).op1 (fetchDecode s).op2 = decode (progRead s s.pc) := rfl

/-- A step from FETCH at a decoded instruction: its meaning, then the tail (40_control_unit R103, R106). -/
theorem runInstruction_instr {s : State} {i : Instr} (hp : s.phase = .fetch)
    (hd : decode (progRead s s.pc) = .instr i) :
    runInstruction s = andThen (exec i (fetchDecode s)) fun t => .next (executeTail t) := by
  simp only [runInstruction, hp, doExecute, dispatch, decodeFields_fetchDecode, hd]

end Sys2Proof.Machine
end

