-- ==== Sys2Proof/Laws/Decode.lean ====
section
/-! SUPPORT. The decoder's parts: the opcode table read both ways, the operand bytes, the fields of a packed word. -/

namespace Sys2Proof

theorem kindOf_opcodeOf (k : Kind) : kindOf (opcodeOf k) = some k := by
  cases k <;> rfl

theorem kindOf_eq_some {o : Byte} {k : Kind} (h : kindOf o = some k) : o = opcodeOf k := by
  simp only [kindOf, Option.map_eq_some_iff] at h
  obtain ⟨row, hrow, rfl⟩ := h
  have hm := List.mem_of_find?_eq_some hrow
  have he := List.find?_some hrow
  have hall : ∀ r ∈ opcodeTable, r.1 = opcodeOf r.2 := by decide
  have : row.1 = o := by simpa using he
  rw [← this, hall row hm]

theorem opcodeOf_lt (k : Kind) : (opcodeOf k).toNat < 0x2A := by
  cases k <;> decide

theorem kindOf_of_lt {o : Byte} (h : o.toNat < 0x2A) : ∃ k, kindOf o = some k := by
  have hall : ∀ n : Fin 0x2A, (kindOf (BitVec.ofNat 8 n.val)).isSome = true := by decide
  have := hall ⟨o.toNat, h⟩
  rw [BitVec.ofNat_toNat, BitVec.setWidth_eq] at this
  exact Option.isSome_iff_exists.mp this

theorem kindOf_eq_none {o : Byte} : kindOf o = none ↔ 0x2A ≤ o.toNat := by
  constructor
  · intro h
    by_contra hlt
    obtain ⟨k, hk⟩ := kindOf_of_lt (Nat.lt_of_not_le hlt)
    simp [h] at hk
  · intro h
    cases hk : kindOf o with
    | none   => rfl
    | some k => exact absurd (kindOf_eq_some hk ▸ opcodeOf_lt k) (Nat.not_lt.mpr h)

/-- The bits of a packed word, byte by byte (30_encoding R80). -/
theorem getLsbD_packWord (o a b : Byte) (i : Nat) :
    (packWord o a b).getLsbD i =
      if i < 8 then b.getLsbD i else if i - 8 < 8 then a.getLsbD (i - 8) else o.getLsbD (i - 8 - 8) := by
  change BitVec.getLsbD (w := 8 + 8 + 8) (o ++ a ++ b) i = _
  rw [BitVec.getLsbD_append, BitVec.getLsbD_append]

@[simp] theorem wordOpcode_packWord (o a b : Byte) : wordOpcode (packWord o a b) = o := by
  apply BitVec.eq_of_getLsbD_eq
  intro i hi
  simp only [wordOpcode, BitVec.getLsbD_extractLsb', getLsbD_packWord, hi, decide_true, Bool.true_and]
  rw [if_neg (by omega), if_neg (by omega), show 16 + i - 8 - 8 = i by omega]

@[simp] theorem wordOperand1_packWord (o a b : Byte) : wordOperand1 (packWord o a b) = a := by
  apply BitVec.eq_of_getLsbD_eq
  intro i hi
  simp only [wordOperand1, BitVec.getLsbD_extractLsb', getLsbD_packWord, hi, decide_true, Bool.true_and]
  rw [if_neg (by omega), if_pos (by omega), show 8 + i - 8 = i by omega]

@[simp] theorem wordOperand2_packWord (o a b : Byte) : wordOperand2 (packWord o a b) = b := by
  apply BitVec.eq_of_getLsbD_eq
  intro i hi
  simp only [wordOperand2, BitVec.getLsbD_extractLsb', getLsbD_packWord, hi, decide_true, Bool.true_and]
  rw [if_pos (by omega), show 0 + i = i by omega]

@[simp] theorem packWord_fields (w : Word24) : packWord (wordOpcode w) (wordOperand1 w) (wordOperand2 w) = w := by
  apply BitVec.eq_of_getLsbD_eq
  intro i hi
  rw [getLsbD_packWord]
  simp only [wordOpcode, wordOperand1, wordOperand2, BitVec.getLsbD_extractLsb']
  split
  · simp [*]
  · split
    · simp [*, show 8 + (i - 8) = i by omega]
    · simp [show i - 8 - 8 < 8 by omega, show 16 + (i - 8 - 8) = i by omega]

/-- Decoding a packed word is decoding its bytes. -/
theorem decode_packWord (o a b : Byte) : decode (packWord o a b) = decodeFields o a b := by
  simp [decode]

theorem toNat_regByte (r : Reg) : (regByte r).toNat = r.val := by
  simp [regByte, Nat.mod_eq_of_lt (show r.val < 256 by omega)]

theorem toNat_ptrByte (p : PtrLow) : (ptrByte p).toNat = p.val := by
  simp [ptrByte, Nat.mod_eq_of_lt (show p.val < 256 by omega)]

@[simp] theorem onReg_regByte (r : Reg) (f : Reg → Decoded) : onReg (regByte r) f = f r := by
  have h : (regByte r).toNat < 32 := by rw [toNat_regByte]; exact r.isLt
  simp only [onReg, h, ↓reduceDIte]
  congr 1
  exact Fin.ext (toNat_regByte r)

@[simp] theorem onPtr_ptrByte (p : PtrLow) (f : PtrLow → Decoded) : onPtr (ptrByte p) f = f p := by
  have h : (ptrByte p).toNat < 31 := by rw [toNat_ptrByte]; exact p.isLt
  simp only [onPtr, h, ↓reduceDIte]
  congr 1
  exact Fin.ext (toNat_ptrByte p)

theorem onReg_reserved {b : Byte} (h : 32 ≤ b.toNat) (f : Reg → Decoded) : onReg b f = .reservedRegister b := by
  simp [onReg, Nat.not_lt.mpr h]

theorem onPtr_reserved {b : Byte} (h : 31 ≤ b.toNat) (f : PtrLow → Decoded) : onPtr b f = .reservedPointer b := by
  simp [onPtr, Nat.not_lt.mpr h]

/-- What reading a register field can give. -/
theorem onReg_cases (b : Byte) (f : Reg → Decoded) :
    (∃ r, b = regByte r ∧ onReg b f = f r) ∨ (32 ≤ b.toNat ∧ onReg b f = .reservedRegister b) := by
  by_cases h : b.toNat < 32
  · refine .inl ⟨⟨b.toNat, h⟩, ?_, ?_⟩
    · simp [regByte]
    · simp [onReg, h]
  · exact .inr ⟨Nat.le_of_not_lt h, onReg_reserved (Nat.le_of_not_lt h) f⟩

/-- What reading a pointer field can give. -/
theorem onPtr_cases (b : Byte) (f : PtrLow → Decoded) :
    (∃ p, b = ptrByte p ∧ onPtr b f = f p) ∨ (31 ≤ b.toNat ∧ onPtr b f = .reservedPointer b) := by
  by_cases h : b.toNat < 31
  · refine .inl ⟨⟨b.toNat, h⟩, ?_, ?_⟩
    · simp [ptrByte]
    · simp [onPtr, h]
  · exact .inr ⟨Nat.le_of_not_lt h, onPtr_reserved (Nat.le_of_not_lt h) f⟩

/-- A recognized opcode's bytes are read by its operand roles. -/
theorem decodeFields_opcodeOf (k : Kind) (a b : Byte) : decodeFields (opcodeOf k) a b = build k a b := by
  simp [decodeFields, kindOf_opcodeOf]

end Sys2Proof
end

