-- ==== Sys2Proof/Laws/Flags.lean ====
section
/-! SUPPORT. The ALU's result byte and flags as exact arithmetic (43_alu R151 to R156). -/

namespace Sys2Proof.Machine

/-! ## Result bytes -/

theorem aluResult_or (a b : Byte) : aluResult .or a b = a ||| b := by
  simp [aluResult, aluWide]

theorem aluResult_and (a b : Byte) : aluResult .and a b = a &&& b := by
  simp [aluResult, aluWide]

theorem aluResult_xor (a b : Byte) : aluResult .xor a b = a ^^^ b := by
  simp [aluResult, aluWide]

theorem aluResult_add (a b : Byte) : aluResult .add a b = a + b := by
  apply BitVec.eq_of_toNat_eq
  simp only [aluResult, aluWide, BitVec.toNat_setWidth, BitVec.toNat_add]
  omega

theorem aluWide_sub_toNat (a b : Byte) : (aluWide .sub a b).toNat = a.toNat + 256 - b.toNat := by
  have ha := a.isLt
  have hb := b.isLt
  simp only [aluWide, BitVec.toNat_add, BitVec.toNat_sub, BitVec.toNat_setWidth, BitVec.toNat_ofNat]
  omega

theorem aluResult_sub (a b : Byte) : aluResult .sub a b = a - b := by
  apply BitVec.eq_of_toNat_eq
  have ha := a.isLt
  have hb := b.isLt
  rw [aluResult, BitVec.toNat_setWidth, aluWide_sub_toNat, BitVec.toNat_sub]
  omega

/-! ## Carry -/

theorem aluCarry_add (a b : Byte) : aluCarry .add a b = decide (256 ≤ a.toNat + b.toNat) := by
  have ha := a.isLt
  have hb := b.isLt
  have h : (aluWide .add a b).toNat = a.toNat + b.toNat := by
    simp only [aluWide, BitVec.toNat_add, BitVec.toNat_setWidth]; omega
  have hm : (aluWide .add a b).getLsbD 8 = (aluWide .add a b).msb := by simp [BitVec.msb_eq_getLsbD_last]
  rw [show aluCarry .add a b = (aluWide .add a b).getLsbD 8 from rfl, hm, BitVec.msb_eq_decide, h]

theorem aluCarry_sub (a b : Byte) : aluCarry .sub a b = decide (b.toNat ≤ a.toNat) := by
  have hb := b.isLt
  have hm : (aluWide .sub a b).getLsbD 8 = (aluWide .sub a b).msb := by simp [BitVec.msb_eq_getLsbD_last]
  rw [show aluCarry .sub a b = (aluWide .sub a b).getLsbD 8 from rfl, hm, BitVec.msb_eq_decide, aluWide_sub_toNat]
  simp only [decide_eq_decide]
  omega

/-! ## Sign bits -/

theorem getLsbD_seven (a : Byte) : a.getLsbD 7 = a.msb := by
  simp [BitVec.msb_eq_getLsbD_last]

theorem aluWide_getLsbD_seven (op : AluOp) (a b : Byte) :
    (aluWide op a b).getLsbD 7 = (aluResult op a b).msb := by
  simp [aluResult, BitVec.msb_eq_getLsbD_last]

theorem aluNegative_eq (op : AluOp) (a b : Byte) : aluNegative op a b = (aluResult op a b).msb := by
  simp [aluNegative, BitVec.msb_eq_getLsbD_last]

theorem msb_iff_toInt_neg (a : Byte) : a.msb = decide (a.toInt < 0) := BitVec.msb_eq_toInt

/-- The signed range of a byte (00_scope R9). -/
theorem toInt_byte (a : Byte) : -128 ≤ a.toInt ∧ a.toInt ≤ 127 := by
  have h1 := BitVec.toInt_lt (x := a)
  have h2 := BitVec.le_toInt (x := a)
  norm_num at h1 h2
  omega

/-- Wrapping a sum or difference of two bytes. -/
theorem bmod_byte {x : Int} (h1 : -256 ≤ x) (h2 : x ≤ 255) :
    x.bmod 256 = if x < -128 then x + 256 else if 127 < x then x - 256 else x := by
  unfold Int.bmod
  push_cast
  split <;> (repeat' split) <;> omega

/-- V after ADD: the signed sum leaves the byte (43_alu R153). -/
theorem aluOverflow_add (a b : Byte) :
    aluOverflow .add a b = decide (a.toInt + b.toInt < -128 ∨ 127 < a.toInt + b.toInt) := by
  have ha := toInt_byte a
  have hb := toInt_byte b
  have hr : (a + b).toInt = (a.toInt + b.toInt).bmod 256 := BitVec.toInt_add a b
  rw [show aluOverflow .add a b =
    (a.getLsbD 7 == b.getLsbD 7 && (aluWide .add a b).getLsbD 7 != a.getLsbD 7) from rfl,
    aluWide_getLsbD_seven, getLsbD_seven, getLsbD_seven, aluResult_add, msb_iff_toInt_neg, msb_iff_toInt_neg,
    msb_iff_toInt_neg, hr, bmod_byte (by omega) (by omega)]
  rw [Bool.eq_iff_iff]
  simp only [Bool.and_eq_true, beq_iff_eq, bne_iff_ne, decide_eq_true_eq, decide_eq_decide, ne_eq]
  split <;> (repeat' split) <;> omega

/-- V after SUB: the signed difference leaves the byte (43_alu R154). -/
theorem aluOverflow_sub (a b : Byte) :
    aluOverflow .sub a b = decide (a.toInt - b.toInt < -128 ∨ 127 < a.toInt - b.toInt) := by
  have ha := toInt_byte a
  have hb := toInt_byte b
  have hr : (a - b).toInt = (a.toInt - b.toInt).bmod 256 := BitVec.toInt_sub
  rw [show aluOverflow .sub a b =
    (a.getLsbD 7 != b.getLsbD 7 && (aluWide .sub a b).getLsbD 7 == b.getLsbD 7) from rfl,
    aluWide_getLsbD_seven, getLsbD_seven, getLsbD_seven, aluResult_sub, msb_iff_toInt_neg, msb_iff_toInt_neg,
    msb_iff_toInt_neg, hr, bmod_byte (by omega) (by omega)]
  rw [Bool.eq_iff_iff]
  simp only [Bool.and_eq_true, beq_iff_eq, bne_iff_ne, decide_eq_true_eq, decide_eq_decide, ne_eq]
  split <;> (repeat' split) <;> omega

/-- The status byte's fields come back from its layout (10_state R26). -/
theorem ofByte_toByte (f : Status) : Status.ofByte f.toByte = f := by
  rcases f with ⟨c, v, z, n, s, i⟩
  cases c <;> cases v <;> cases z <;> cases n <;> cases s <;> cases i <;> rfl

/-- S is N xor V after every ALU call (43_alu R155). -/
@[simp] theorem aluStatus_s (op : AluOp) (a b : Byte) (f : Status) :
    (aluStatus op a b f).s = ((aluStatus op a b f).n ^^ (aluStatus op a b f).v) := rfl

/-- I is kept by every ALU call (43_alu R150). -/
@[simp] theorem aluStatus_i (op : AluOp) (a b : Byte) (f : Status) : (aluStatus op a b f).i = f.i := rfl

end Sys2Proof.Machine
end

