-- ==== Sys2Proof/Laws/Operands.lean ====
section
/-! SUPPORT. The shared parts of the meanings: loads, stores, ALU writes, branches, and the pointer check. -/

namespace Sys2Proof.Machine

/-! ## Loads and stores -/

@[simp] theorem loadInto_pc (d : Reg) (a : Nat) (s : State) : (loadInto d a s).pc = s.pc := by
  simp [loadInto]
@[simp] theorem loadInto_sr (d : Reg) (a : Nat) (s : State) : (loadInto d a s).sr = s.sr := by
  simp [loadInto]
@[simp] theorem loadInto_phase (d : Reg) (a : Nat) (s : State) : (loadInto d a s).phase = s.phase := by
  simp [loadInto]
@[simp] theorem loadInto_ir (d : Reg) (a : Nat) (s : State) : (loadInto d a s).ir = s.ir := by
  simp [loadInto]
@[simp] theorem loadInto_opc (d : Reg) (a : Nat) (s : State) : (loadInto d a s).opc = s.opc := by
  simp [loadInto]
@[simp] theorem loadInto_op1 (d : Reg) (a : Nat) (s : State) : (loadInto d a s).op1 = s.op1 := by
  simp [loadInto]
@[simp] theorem loadInto_op2 (d : Reg) (a : Nat) (s : State) : (loadInto d a s).op2 = s.op2 := by
  simp [loadInto]
@[simp] theorem loadInto_cia (d : Reg) (a : Nat) (s : State) : (loadInto d a s).cia = s.cia := by
  simp [loadInto]
@[simp] theorem loadInto_dmem (d : Reg) (a : Nat) (s : State) : (loadInto d a s).dmem = s.dmem := by
  simp [loadInto]
@[simp] theorem loadInto_stack (d : Reg) (a : Nat) (s : State) : (loadInto d a s).stack = s.stack := by
  simp [loadInto]
@[simp] theorem loadInto_sp (d : Reg) (a : Nat) (s : State) : (loadInto d a s).sp = s.sp := by
  simp [loadInto]
@[simp] theorem loadInto_prev (d : Reg) (a : Nat) (s : State) : (loadInto d a s).prev = s.prev := by
  simp [loadInto]
@[simp] theorem loadInto_stkOvf (d : Reg) (a : Nat) (s : State) : (loadInto d a s).stkOvf = s.stkOvf := by
  simp [loadInto]
@[simp] theorem loadInto_stkUnf (d : Reg) (a : Nat) (s : State) : (loadInto d a s).stkUnf = s.stkUnf := by
  simp [loadInto]
@[simp] theorem loadInto_prog (d : Reg) (a : Nat) (s : State) : (loadInto d a s).prog = s.prog := by
  simp [loadInto]
@[simp] theorem loadInto_cfg (d : Reg) (a : Nat) (s : State) : (loadInto d a s).cfg = s.cfg := by
  simp [loadInto]

theorem x_loadInto (d r : Reg) (a : Nat) (s : State) :
    (loadInto d a s).x r = if r = d then s.byteAt a else s.x r := by
  simp [loadInto, State.x_setX]

theorem loadInto_memOor (d : Reg) (a : Nat) (s : State) :
    (loadInto d a s).memOor = (s.memOor || decide (dmemSize ≤ a)) := by
  simp [loadInto, memRead_snd_memOor]

@[simp] theorem storeFrom_regs (a : Nat) (r : Reg) (s : State) : (storeFrom a r s).regs = s.regs := by
  simp [storeFrom]
@[simp] theorem storeFrom_pc (a : Nat) (r : Reg) (s : State) : (storeFrom a r s).pc = s.pc := by
  simp [storeFrom]
@[simp] theorem storeFrom_sr (a : Nat) (r : Reg) (s : State) : (storeFrom a r s).sr = s.sr := by
  simp [storeFrom]
@[simp] theorem storeFrom_phase (a : Nat) (r : Reg) (s : State) : (storeFrom a r s).phase = s.phase := by
  simp [storeFrom]
@[simp] theorem storeFrom_ir (a : Nat) (r : Reg) (s : State) : (storeFrom a r s).ir = s.ir := by
  simp [storeFrom]
@[simp] theorem storeFrom_opc (a : Nat) (r : Reg) (s : State) : (storeFrom a r s).opc = s.opc := by
  simp [storeFrom]
@[simp] theorem storeFrom_op1 (a : Nat) (r : Reg) (s : State) : (storeFrom a r s).op1 = s.op1 := by
  simp [storeFrom]
@[simp] theorem storeFrom_op2 (a : Nat) (r : Reg) (s : State) : (storeFrom a r s).op2 = s.op2 := by
  simp [storeFrom]
@[simp] theorem storeFrom_cia (a : Nat) (r : Reg) (s : State) : (storeFrom a r s).cia = s.cia := by
  simp [storeFrom]
@[simp] theorem storeFrom_stack (a : Nat) (r : Reg) (s : State) : (storeFrom a r s).stack = s.stack := by
  simp [storeFrom]
@[simp] theorem storeFrom_sp (a : Nat) (r : Reg) (s : State) : (storeFrom a r s).sp = s.sp := by
  simp [storeFrom]
@[simp] theorem storeFrom_prev (a : Nat) (r : Reg) (s : State) : (storeFrom a r s).prev = s.prev := by
  simp [storeFrom]
@[simp] theorem storeFrom_stkOvf (a : Nat) (r : Reg) (s : State) : (storeFrom a r s).stkOvf = s.stkOvf := by
  simp [storeFrom]
@[simp] theorem storeFrom_stkUnf (a : Nat) (r : Reg) (s : State) : (storeFrom a r s).stkUnf = s.stkUnf := by
  simp [storeFrom]
@[simp] theorem storeFrom_prog (a : Nat) (r : Reg) (s : State) : (storeFrom a r s).prog = s.prog := by
  simp [storeFrom]
@[simp] theorem storeFrom_cfg (a : Nat) (r : Reg) (s : State) : (storeFrom a r s).cfg = s.cfg := by
  simp [storeFrom]

theorem byteAt_storeFrom (a b : Nat) (r : Reg) (s : State) :
    (storeFrom a r s).byteAt b = if b = a ∧ a < dmemSize then s.x r else s.byteAt b := by
  simp [storeFrom, byteAt_memWrite]

theorem storeFrom_memOor (a : Nat) (r : Reg) (s : State) :
    (storeFrom a r s).memOor = (s.memOor || decide (dmemSize ≤ a)) := by
  simp [storeFrom, memWrite_memOor]

theorem extAddress_inRange (k : Byte) : extAddress k < dmemSize := by
  have := k.isLt; simp only [extAddress, extOffset, dmemSize]; omega

theorem ioAddress_inRange (k : Byte) : ioAddress k < dmemSize := by
  have := k.isLt; simp only [ioAddress, dmemSize]; omega

/-- The pointer as a number: the high register times 256 plus the low register (10_state R22). -/
theorem toNat_ptr (p : PtrLow) (s : State) :
    (ptr p s).toNat = 256 * (s.x (pairHigh p)).toNat + (s.x (pairLow p)).toNat := by
  have h := (s.x (pairLow p)).isLt
  rw [ptr, BitVec.toNat_append, Nat.shiftLeft_eq, Nat.mul_comm, ← Nat.two_pow_add_eq_or_of_lt h]

/-- A pointer instruction either does its operation or refuses an undesignated pair (30_encoding R88). -/
theorem onPair_designated {p : PtrLow} {s : State} (h : s.cfg.designated p = true) (op : State → State) :
    onPair p s op = .next (op s) := by
  simp [onPair, h]

theorem onPair_reserved {p : PtrLow} {s : State} (h : s.cfg.designated p = false) (op : State → State) :
    onPair p s op = .refused (.reservedPointer (ptrByte p)) := by
  simp [onPair, h]

theorem onPair_next {p : PtrLow} {s t : State} {op : State → State} (h : onPair p s op = .next t) : t = op s := by
  unfold onPair at h
  split at h
  · exact (Host.Outcome.next.inj h).symm
  · cases h

/-! ## ALU writes -/

@[simp] theorem aluCompare_regs (op : AluOp) (a b : Byte) (s : State) : (aluCompare op a b s).regs = s.regs := by
  rfl
@[simp] theorem aluCompare_pc (op : AluOp) (a b : Byte) (s : State) : (aluCompare op a b s).pc = s.pc := by
  rfl
@[simp] theorem aluCompare_phase (op : AluOp) (a b : Byte) (s : State) : (aluCompare op a b s).phase = s.phase := by
  rfl
@[simp] theorem aluCompare_ir (op : AluOp) (a b : Byte) (s : State) : (aluCompare op a b s).ir = s.ir := by
  rfl
@[simp] theorem aluCompare_opc (op : AluOp) (a b : Byte) (s : State) : (aluCompare op a b s).opc = s.opc := by
  rfl
@[simp] theorem aluCompare_op1 (op : AluOp) (a b : Byte) (s : State) : (aluCompare op a b s).op1 = s.op1 := by
  rfl
@[simp] theorem aluCompare_op2 (op : AluOp) (a b : Byte) (s : State) : (aluCompare op a b s).op2 = s.op2 := by
  rfl
@[simp] theorem aluCompare_cia (op : AluOp) (a b : Byte) (s : State) : (aluCompare op a b s).cia = s.cia := by
  rfl
@[simp] theorem aluCompare_dmem (op : AluOp) (a b : Byte) (s : State) : (aluCompare op a b s).dmem = s.dmem := by
  rfl
@[simp] theorem aluCompare_stack (op : AluOp) (a b : Byte) (s : State) : (aluCompare op a b s).stack = s.stack := by
  rfl
@[simp] theorem aluCompare_sp (op : AluOp) (a b : Byte) (s : State) : (aluCompare op a b s).sp = s.sp := by
  rfl
@[simp] theorem aluCompare_prev (op : AluOp) (a b : Byte) (s : State) : (aluCompare op a b s).prev = s.prev := by
  rfl
@[simp] theorem aluCompare_stkOvf (op : AluOp) (a b : Byte) (s : State) : (aluCompare op a b s).stkOvf = s.stkOvf := by
  rfl
@[simp] theorem aluCompare_stkUnf (op : AluOp) (a b : Byte) (s : State) : (aluCompare op a b s).stkUnf = s.stkUnf := by
  rfl
@[simp] theorem aluCompare_memOor (op : AluOp) (a b : Byte) (s : State) : (aluCompare op a b s).memOor = s.memOor := by
  rfl
@[simp] theorem aluCompare_prog (op : AluOp) (a b : Byte) (s : State) : (aluCompare op a b s).prog = s.prog := by
  rfl
@[simp] theorem aluCompare_cfg (op : AluOp) (a b : Byte) (s : State) : (aluCompare op a b s).cfg = s.cfg := by
  rfl

@[simp] theorem aluCompare_sr (op : AluOp) (a b : Byte) (s : State) :
    (aluCompare op a b s).sr = aluStatus op a b s.sr := rfl

@[simp] theorem aluInto_pc (op : AluOp) (d : Reg) (a b : Byte) (s : State) : (aluInto op d a b s).pc = s.pc := by
  rfl
@[simp] theorem aluInto_phase (op : AluOp) (d : Reg) (a b : Byte) (s : State) : (aluInto op d a b s).phase = s.phase := by
  rfl
@[simp] theorem aluInto_ir (op : AluOp) (d : Reg) (a b : Byte) (s : State) : (aluInto op d a b s).ir = s.ir := by
  rfl
@[simp] theorem aluInto_opc (op : AluOp) (d : Reg) (a b : Byte) (s : State) : (aluInto op d a b s).opc = s.opc := by
  rfl
@[simp] theorem aluInto_op1 (op : AluOp) (d : Reg) (a b : Byte) (s : State) : (aluInto op d a b s).op1 = s.op1 := by
  rfl
@[simp] theorem aluInto_op2 (op : AluOp) (d : Reg) (a b : Byte) (s : State) : (aluInto op d a b s).op2 = s.op2 := by
  rfl
@[simp] theorem aluInto_cia (op : AluOp) (d : Reg) (a b : Byte) (s : State) : (aluInto op d a b s).cia = s.cia := by
  rfl
@[simp] theorem aluInto_dmem (op : AluOp) (d : Reg) (a b : Byte) (s : State) : (aluInto op d a b s).dmem = s.dmem := by
  rfl
@[simp] theorem aluInto_stack (op : AluOp) (d : Reg) (a b : Byte) (s : State) : (aluInto op d a b s).stack = s.stack := by
  rfl
@[simp] theorem aluInto_sp (op : AluOp) (d : Reg) (a b : Byte) (s : State) : (aluInto op d a b s).sp = s.sp := by
  rfl
@[simp] theorem aluInto_prev (op : AluOp) (d : Reg) (a b : Byte) (s : State) : (aluInto op d a b s).prev = s.prev := by
  rfl
@[simp] theorem aluInto_stkOvf (op : AluOp) (d : Reg) (a b : Byte) (s : State) : (aluInto op d a b s).stkOvf = s.stkOvf := by
  rfl
@[simp] theorem aluInto_stkUnf (op : AluOp) (d : Reg) (a b : Byte) (s : State) : (aluInto op d a b s).stkUnf = s.stkUnf := by
  rfl
@[simp] theorem aluInto_memOor (op : AluOp) (d : Reg) (a b : Byte) (s : State) : (aluInto op d a b s).memOor = s.memOor := by
  rfl
@[simp] theorem aluInto_prog (op : AluOp) (d : Reg) (a b : Byte) (s : State) : (aluInto op d a b s).prog = s.prog := by
  rfl
@[simp] theorem aluInto_cfg (op : AluOp) (d : Reg) (a b : Byte) (s : State) : (aluInto op d a b s).cfg = s.cfg := by
  rfl

@[simp] theorem aluInto_sr (op : AluOp) (d : Reg) (a b : Byte) (s : State) :
    (aluInto op d a b s).sr = aluStatus op a b s.sr := rfl

theorem x_aluInto (op : AluOp) (d r : Reg) (a b : Byte) (s : State) :
    (aluInto op d a b s).x r = if r = d then aluResult op a b else s.x r := by
  rw [aluInto, State.x_setX]; rfl

/-! ## Branches -/

@[simp] theorem branchIf_regs (c : Bool) (t : Byte) (s : State) : (branchIf c t s).regs = s.regs := by
  unfold branchIf; split <;> rfl
@[simp] theorem branchIf_sr (c : Bool) (t : Byte) (s : State) : (branchIf c t s).sr = s.sr := by
  unfold branchIf; split <;> rfl
@[simp] theorem branchIf_phase (c : Bool) (t : Byte) (s : State) : (branchIf c t s).phase = s.phase := by
  unfold branchIf; split <;> rfl
@[simp] theorem branchIf_ir (c : Bool) (t : Byte) (s : State) : (branchIf c t s).ir = s.ir := by
  unfold branchIf; split <;> rfl
@[simp] theorem branchIf_opc (c : Bool) (t : Byte) (s : State) : (branchIf c t s).opc = s.opc := by
  unfold branchIf; split <;> rfl
@[simp] theorem branchIf_op1 (c : Bool) (t : Byte) (s : State) : (branchIf c t s).op1 = s.op1 := by
  unfold branchIf; split <;> rfl
@[simp] theorem branchIf_op2 (c : Bool) (t : Byte) (s : State) : (branchIf c t s).op2 = s.op2 := by
  unfold branchIf; split <;> rfl
@[simp] theorem branchIf_cia (c : Bool) (t : Byte) (s : State) : (branchIf c t s).cia = s.cia := by
  unfold branchIf; split <;> rfl
@[simp] theorem branchIf_dmem (c : Bool) (t : Byte) (s : State) : (branchIf c t s).dmem = s.dmem := by
  unfold branchIf; split <;> rfl
@[simp] theorem branchIf_stack (c : Bool) (t : Byte) (s : State) : (branchIf c t s).stack = s.stack := by
  unfold branchIf; split <;> rfl
@[simp] theorem branchIf_sp (c : Bool) (t : Byte) (s : State) : (branchIf c t s).sp = s.sp := by
  unfold branchIf; split <;> rfl
@[simp] theorem branchIf_prev (c : Bool) (t : Byte) (s : State) : (branchIf c t s).prev = s.prev := by
  unfold branchIf; split <;> rfl
@[simp] theorem branchIf_stkOvf (c : Bool) (t : Byte) (s : State) : (branchIf c t s).stkOvf = s.stkOvf := by
  unfold branchIf; split <;> rfl
@[simp] theorem branchIf_stkUnf (c : Bool) (t : Byte) (s : State) : (branchIf c t s).stkUnf = s.stkUnf := by
  unfold branchIf; split <;> rfl
@[simp] theorem branchIf_memOor (c : Bool) (t : Byte) (s : State) : (branchIf c t s).memOor = s.memOor := by
  unfold branchIf; split <;> rfl
@[simp] theorem branchIf_prog (c : Bool) (t : Byte) (s : State) : (branchIf c t s).prog = s.prog := by
  unfold branchIf; split <;> rfl
@[simp] theorem branchIf_cfg (c : Bool) (t : Byte) (s : State) : (branchIf c t s).cfg = s.cfg := by
  unfold branchIf; split <;> rfl

theorem branchIf_pc (c : Bool) (t : Byte) (s : State) : (branchIf c t s).pc = if c then t else s.pc := by
  unfold branchIf; split <;> rfl

end Sys2Proof.Machine
end

