-- ==== Sys2Proof/Laws/PerInstr.lean ====
section
/-! SUPPORT. The statement about every instruction as syntax, one lemma per constructor: its kind's operand roles read its
operand bytes back (30_encoding R83). -/

set_option Elab.async false

/-- The operand roles of the instruction's kind read its own operand bytes back. -/
def Sys2Proof.Laws.OperandRoles.Statement (i : Sys2Proof.Instr) : Prop :=
  Sys2Proof.build i.fields.1 i.fields.2.1 i.fields.2.2 = .instr i

namespace Sys2Proof

theorem Laws.OperandRoles.nop : Laws.OperandRoles.Statement .nop := by
  simp [Laws.OperandRoles.Statement, Instr.fields, build]

theorem Laws.OperandRoles.ldi (d : Reg) (k : Byte) : Laws.OperandRoles.Statement (.ldi d k) := by
  simp [Laws.OperandRoles.Statement, Instr.fields, build]

theorem Laws.OperandRoles.mov (d : Reg) (r : Reg) : Laws.OperandRoles.Statement (.mov d r) := by
  simp [Laws.OperandRoles.Statement, Instr.fields, build]

theorem Laws.OperandRoles.out (a : Byte) (r : Reg) : Laws.OperandRoles.Statement (.out a r) := by
  simp [Laws.OperandRoles.Statement, Instr.fields, build]

theorem Laws.OperandRoles.inp (d : Reg) (a : Byte) : Laws.OperandRoles.Statement (.inp d a) := by
  simp [Laws.OperandRoles.Statement, Instr.fields, build]

theorem Laws.OperandRoles.sts (k : Byte) (r : Reg) : Laws.OperandRoles.Statement (.sts k r) := by
  simp [Laws.OperandRoles.Statement, Instr.fields, build]

theorem Laws.OperandRoles.lds (d : Reg) (k : Byte) : Laws.OperandRoles.Statement (.lds d k) := by
  simp [Laws.OperandRoles.Statement, Instr.fields, build]

theorem Laws.OperandRoles.clr (d : Reg) : Laws.OperandRoles.Statement (.clr d) := by
  simp [Laws.OperandRoles.Statement, Instr.fields, build]

theorem Laws.OperandRoles.ori (d : Reg) (k : Byte) : Laws.OperandRoles.Statement (.ori d k) := by
  simp [Laws.OperandRoles.Statement, Instr.fields, build]

theorem Laws.OperandRoles.andi (d : Reg) (k : Byte) : Laws.OperandRoles.Statement (.andi d k) := by
  simp [Laws.OperandRoles.Statement, Instr.fields, build]

theorem Laws.OperandRoles.xori (d : Reg) (k : Byte) : Laws.OperandRoles.Statement (.xori d k) := by
  simp [Laws.OperandRoles.Statement, Instr.fields, build]

theorem Laws.OperandRoles.or (d : Reg) (r : Reg) : Laws.OperandRoles.Statement (.or d r) := by
  simp [Laws.OperandRoles.Statement, Instr.fields, build]

theorem Laws.OperandRoles.and (d : Reg) (r : Reg) : Laws.OperandRoles.Statement (.and d r) := by
  simp [Laws.OperandRoles.Statement, Instr.fields, build]

theorem Laws.OperandRoles.xor (d : Reg) (r : Reg) : Laws.OperandRoles.Statement (.xor d r) := by
  simp [Laws.OperandRoles.Statement, Instr.fields, build]

theorem Laws.OperandRoles.addi (d : Reg) (k : Byte) : Laws.OperandRoles.Statement (.addi d k) := by
  simp [Laws.OperandRoles.Statement, Instr.fields, build]

theorem Laws.OperandRoles.subi (d : Reg) (k : Byte) : Laws.OperandRoles.Statement (.subi d k) := by
  simp [Laws.OperandRoles.Statement, Instr.fields, build]

theorem Laws.OperandRoles.add (d : Reg) (r : Reg) : Laws.OperandRoles.Statement (.add d r) := by
  simp [Laws.OperandRoles.Statement, Instr.fields, build]

theorem Laws.OperandRoles.sub (d : Reg) (r : Reg) : Laws.OperandRoles.Statement (.sub d r) := by
  simp [Laws.OperandRoles.Statement, Instr.fields, build]

theorem Laws.OperandRoles.inc (d : Reg) : Laws.OperandRoles.Statement (.inc d) := by
  simp [Laws.OperandRoles.Statement, Instr.fields, build]

theorem Laws.OperandRoles.dec (d : Reg) : Laws.OperandRoles.Statement (.dec d) := by
  simp [Laws.OperandRoles.Statement, Instr.fields, build]

theorem Laws.OperandRoles.cpi (d : Reg) (k : Byte) : Laws.OperandRoles.Statement (.cpi d k) := by
  simp [Laws.OperandRoles.Statement, Instr.fields, build]

theorem Laws.OperandRoles.cp (d : Reg) (r : Reg) : Laws.OperandRoles.Statement (.cp d r) := by
  simp [Laws.OperandRoles.Statement, Instr.fields, build]

theorem Laws.OperandRoles.jmp (t : Byte) : Laws.OperandRoles.Statement (.jmp t) := by
  simp [Laws.OperandRoles.Statement, Instr.fields, build]

theorem Laws.OperandRoles.breq (t : Byte) : Laws.OperandRoles.Statement (.breq t) := by
  simp [Laws.OperandRoles.Statement, Instr.fields, build]

theorem Laws.OperandRoles.brne (t : Byte) : Laws.OperandRoles.Statement (.brne t) := by
  simp [Laws.OperandRoles.Statement, Instr.fields, build]

theorem Laws.OperandRoles.brge (t : Byte) : Laws.OperandRoles.Statement (.brge t) := by
  simp [Laws.OperandRoles.Statement, Instr.fields, build]

theorem Laws.OperandRoles.brgt (t : Byte) : Laws.OperandRoles.Statement (.brgt t) := by
  simp [Laws.OperandRoles.Statement, Instr.fields, build]

theorem Laws.OperandRoles.brle (t : Byte) : Laws.OperandRoles.Statement (.brle t) := by
  simp [Laws.OperandRoles.Statement, Instr.fields, build]

theorem Laws.OperandRoles.brlt (t : Byte) : Laws.OperandRoles.Statement (.brlt t) := by
  simp [Laws.OperandRoles.Statement, Instr.fields, build]

theorem Laws.OperandRoles.call (t : Byte) : Laws.OperandRoles.Statement (.call t) := by
  simp [Laws.OperandRoles.Statement, Instr.fields, build]

theorem Laws.OperandRoles.ret : Laws.OperandRoles.Statement .ret := by
  simp [Laws.OperandRoles.Statement, Instr.fields, build]

theorem Laws.OperandRoles.reti : Laws.OperandRoles.Statement .reti := by
  simp [Laws.OperandRoles.Statement, Instr.fields, build]

theorem Laws.OperandRoles.push (r : Reg) : Laws.OperandRoles.Statement (.push r) := by
  simp [Laws.OperandRoles.Statement, Instr.fields, build]

theorem Laws.OperandRoles.pop (d : Reg) : Laws.OperandRoles.Statement (.pop d) := by
  simp [Laws.OperandRoles.Statement, Instr.fields, build]

theorem Laws.OperandRoles.lsl (d : Reg) : Laws.OperandRoles.Statement (.lsl d) := by
  simp [Laws.OperandRoles.Statement, Instr.fields, build]

theorem Laws.OperandRoles.lsr (d : Reg) : Laws.OperandRoles.Statement (.lsr d) := by
  simp [Laws.OperandRoles.Statement, Instr.fields, build]

theorem Laws.OperandRoles.sei : Laws.OperandRoles.Statement .sei := by
  simp [Laws.OperandRoles.Statement, Instr.fields, build]

theorem Laws.OperandRoles.cli : Laws.OperandRoles.Statement .cli := by
  simp [Laws.OperandRoles.Statement, Instr.fields, build]

theorem Laws.OperandRoles.stio (p : PtrLow) (r : Reg) : Laws.OperandRoles.Statement (.stio p r) := by
  simp [Laws.OperandRoles.Statement, Instr.fields, build]

theorem Laws.OperandRoles.ldio (d : Reg) (p : PtrLow) : Laws.OperandRoles.Statement (.ldio d p) := by
  simp [Laws.OperandRoles.Statement, Instr.fields, build]

theorem Laws.OperandRoles.st (p : PtrLow) (r : Reg) : Laws.OperandRoles.Statement (.st p r) := by
  simp [Laws.OperandRoles.Statement, Instr.fields, build]

theorem Laws.OperandRoles.ld (d : Reg) (p : PtrLow) : Laws.OperandRoles.Statement (.ld d p) := by
  simp [Laws.OperandRoles.Statement, Instr.fields, build]

end Sys2Proof
end

