-- ==== Sys2Proof/Tests/Slice0.lean ====
section
/-! SUPPORT. Tests, each about one decoding or one step on a small state, the expected values taken from the spec's own
encodings, examples and vectors (95_test_vectors); and for every statement with hypotheses a witness that meets them. -/

set_option Elab.async false

namespace Sys2Proof.Tests

open Sys2Proof.Machine

/-! ## Helpers -/

/-- The reset state, changed by `pre`, about to fetch the word `w` at `pc`. -/
def start (pc : Byte) (w : Word24) (pre : State → State) : State :=
  { pre State.reset with prog := writeCell [] pc.toNat w, pc := pc }

/-- What `look` sees after one step, if there is a next state. -/
def after {α : Type} (pc : Byte) (w : Word24) (pre : State → State) (look : State → α) : Option α :=
  match step (start pc w pre) with
  | .next t    => some (look t)
  | .fault _   => none
  | .refused _ => none

/-- The status register set from its byte. -/
def withSr (b : Byte) (s : State) : State := s.setSr (Status.ofByte b)

/-- The stack full, its cells all 0. -/
def fullStack (s : State) : State := { s with sp := 0 }

/-- The reset state with one word at an address, at a `pc` and in a phase. -/
def inPhase (p : Phase) (pc : Byte) (w : Word24) : State := { start pc w id with phase := p }

/-! ## Decoding: every constructor, its word written out from the encoding its rule gives -/

/-- R120: 00000000 xxxxxxxx xxxxxxxx. -/
theorem test_decode_nop : decode 0b000000001100001111000011#24 = .instr .nop := by decide

/-- R121: 00000001 dddddddd kkkkkkkk. -/
theorem test_decode_ldi : decode 0b000000010001000110100101#24 = .instr (.ldi 17 0xA5#8) := by decide

/-- R122: 00000010 dddddddd rrrrrrrr. -/
theorem test_decode_mov : decode 0b000000100001000100010010#24 = .instr (.mov 17 18) := by decide

/-- R131: 00000011 aaaaaaaa rrrrrrrr. -/
theorem test_decode_out : decode 0b000000110000101100010010#24 = .instr (.out 0x0B#8 18) := by decide

/-- R132: 00000100 dddddddd aaaaaaaa. -/
theorem test_decode_inp : decode 0b000001000001000100001011#24 = .instr (.inp 17 0x0B#8) := by decide

/-- R133: 00000101 mmmmmmmm rrrrrrrr. -/
theorem test_decode_sts : decode 0b000001010000101000010010#24 = .instr (.sts 0x0A#8 18) := by decide

/-- R134: 00000110 dddddddd mmmmmmmm. -/
theorem test_decode_lds : decode 0b000001100001000100001010#24 = .instr (.lds 17 0x0A#8) := by decide

/-- R123: 00000111 dddddddd xxxxxxxx. -/
theorem test_decode_clr : decode 0b000001110001000111000011#24 = .instr (.clr 17) := by decide

/-- R157: 00001000 dddddddd kkkkkkkk. -/
theorem test_decode_ori : decode 0b000010000001000110100101#24 = .instr (.ori 17 0xA5#8) := by decide

/-- R158: 00001001 dddddddd kkkkkkkk. -/
theorem test_decode_andi : decode 0b000010010001000110100101#24 = .instr (.andi 17 0xA5#8) := by decide

/-- R159: 00001010 dddddddd kkkkkkkk. -/
theorem test_decode_xori : decode 0b000010100001000110100101#24 = .instr (.xori 17 0xA5#8) := by decide

/-- R160: 00001011 dddddddd rrrrrrrr. -/
theorem test_decode_or : decode 0b000010110001000100010010#24 = .instr (.or 17 18) := by decide

/-- R161: 00001100 dddddddd rrrrrrrr. -/
theorem test_decode_and : decode 0b000011000001000100010010#24 = .instr (.and 17 18) := by decide

/-- R162: 00001101 dddddddd rrrrrrrr. -/
theorem test_decode_xor : decode 0b000011010001000100010010#24 = .instr (.xor 17 18) := by decide

/-- R163: 00001110 dddddddd kkkkkkkk. -/
theorem test_decode_addi : decode 0b000011100001000110100101#24 = .instr (.addi 17 0xA5#8) := by decide

/-- R164: 00001111 dddddddd kkkkkkkk. -/
theorem test_decode_subi : decode 0b000011110001000110100101#24 = .instr (.subi 17 0xA5#8) := by decide

/-- R165: 00010000 dddddddd rrrrrrrr. -/
theorem test_decode_add : decode 0b000100000001000100010010#24 = .instr (.add 17 18) := by decide

/-- R166: 00010001 dddddddd rrrrrrrr. -/
theorem test_decode_sub : decode 0b000100010001000100010010#24 = .instr (.sub 17 18) := by decide

/-- R167: 00010010 dddddddd xxxxxxxx. -/
theorem test_decode_inc : decode 0b000100100001000111000011#24 = .instr (.inc 17) := by decide

/-- R168: 00010011 dddddddd xxxxxxxx. -/
theorem test_decode_dec : decode 0b000100110001000111000011#24 = .instr (.dec 17) := by decide

/-- R169: 00010100 dddddddd kkkkkkkk. -/
theorem test_decode_cpi : decode 0b000101000001000110100101#24 = .instr (.cpi 17 0xA5#8) := by decide

/-- R170: 00010101 dddddddd rrrrrrrr. -/
theorem test_decode_cp : decode 0b000101010001000100010010#24 = .instr (.cp 17 18) := by decide

/-- R181: 00010110 tttttttt xxxxxxxx. -/
theorem test_decode_jmp : decode 0b000101100010110011000011#24 = .instr (.jmp 0x2C#8) := by decide

/-- R182: 00010111 tttttttt xxxxxxxx. -/
theorem test_decode_breq : decode 0b000101110010110011000011#24 = .instr (.breq 0x2C#8) := by decide

/-- R183: 00011000 tttttttt xxxxxxxx. -/
theorem test_decode_brne : decode 0b000110000010110011000011#24 = .instr (.brne 0x2C#8) := by decide

/-- R184: 00011001 tttttttt xxxxxxxx. -/
theorem test_decode_brge : decode 0b000110010010110011000011#24 = .instr (.brge 0x2C#8) := by decide

/-- R185: 00011010 tttttttt xxxxxxxx. -/
theorem test_decode_brgt : decode 0b000110100010110011000011#24 = .instr (.brgt 0x2C#8) := by decide

/-- R186: 00011011 tttttttt xxxxxxxx. -/
theorem test_decode_brle : decode 0b000110110010110011000011#24 = .instr (.brle 0x2C#8) := by decide

/-- R187: 00011100 tttttttt xxxxxxxx. -/
theorem test_decode_brlt : decode 0b000111000010110011000011#24 = .instr (.brlt 0x2C#8) := by decide

/-- R190: 00011101 tttttttt xxxxxxxx. -/
theorem test_decode_call : decode 0b000111010010110011000011#24 = .instr (.call 0x2C#8) := by decide

/-- R188: 00011110 xxxxxxxx xxxxxxxx. -/
theorem test_decode_ret : decode 0b000111101100001111000011#24 = .instr .ret := by decide

/-- R189: 00011111 xxxxxxxx xxxxxxxx. -/
theorem test_decode_reti : decode 0b000111111100001111000011#24 = .instr .reti := by decide

/-- R200: 00100000 rrrrrrrr xxxxxxxx. -/
theorem test_decode_push : decode 0b001000000001001011000011#24 = .instr (.push 18) := by decide

/-- R201: 00100001 dddddddd xxxxxxxx. -/
theorem test_decode_pop : decode 0b001000010001000111000011#24 = .instr (.pop 17) := by decide

/-- R210: 00100010 dddddddd xxxxxxxx. -/
theorem test_decode_lsl : decode 0b001000100001000111000011#24 = .instr (.lsl 17) := by decide

/-- R211: 00100011 dddddddd xxxxxxxx. -/
theorem test_decode_lsr : decode 0b001000110001000111000011#24 = .instr (.lsr 17) := by decide

/-- R220: 00100100 xxxxxxxx xxxxxxxx. -/
theorem test_decode_sei : decode 0b001001001100001111000011#24 = .instr .sei := by decide

/-- R221: 00100101 xxxxxxxx xxxxxxxx. -/
theorem test_decode_cli : decode 0b001001011100001111000011#24 = .instr .cli := by decide

/-- R135: 00100110 pppppppp rrrrrrrr. -/
theorem test_decode_stio : decode 0b001001100001110000010010#24 = .instr (.stio 28 18) := by decide

/-- R136: 00100111 dddddddd pppppppp. -/
theorem test_decode_ldio : decode 0b001001110001000100011100#24 = .instr (.ldio 17 28) := by decide

/-- R137: 00101000 pppppppp rrrrrrrr. -/
theorem test_decode_st : decode 0b001010000001110000010010#24 = .instr (.st 28 18) := by decide

/-- R138: 00101001 dddddddd pppppppp. -/
theorem test_decode_ld : decode 0b001010010001000100011100#24 = .instr (.ld 17 28) := by decide

/-- 30 R86, 95 section 2.1: the first and the last unrecognized opcode. -/
theorem test_decode_unrecognized :
    decode 0b001010100000000000000000#24 = .unrecognized 0x2A#8 ∧
    decode 0b111111110000000000000000#24 = .unrecognized 0xFF#8 := by decide

/-- 30 R87, 95 section 2.1: LDI with d = 32, MOV with r = 32, LD with d = 255 are reserved. -/
theorem test_decode_reserved_register :
    decode 0x012000#24 = .reservedRegister 0x20#8 ∧ decode 0x021F20#24 = .reservedRegister 0x20#8 ∧
    decode 0x29FFFF#24 = .reservedRegister 0xFF#8 := by decide

/-- 30 R88: 31 has no register 32 to pair with. -/
theorem test_decode_reserved_pointer :
    decode 0x281F10#24 = .reservedPointer 0x1F#8 ∧ decode 0x27101F#24 = .reservedPointer 0x1F#8 := by decide

/-- 95 section 2.1: the words of the table are what an assembler writes. -/
theorem test_encode :
    encode (.ldi 16 0x05#8) = 0x011005#24 ∧ encode (.sub 16 17) = 0x111011#24 ∧ encode (.brgt 0x10#8) = 0x1A1000#24 ∧
    encode (.st 26 16) = 0x281A10#24 ∧ encode (.ld 18 26) = 0x29121A#24 ∧ encode .ret = 0x1E0000#24 := by decide

/-- The table's word for LDI R16, 5 through the host's two functions. -/
theorem test_decodeTableWord :
    decodeTableWord 24 0x011005 = some (.ldi 16 0x05#8) ∧ decodeTableWord 24 0x2A0000 = none ∧
    progRead (State.reset.withFetchWord 24 0x011005) 0x00#8 = 0x011005#24 := by decide

/-! ## Well-formedness: an ill-formed term for each check (R88) -/

/-- 95 section 2.1: ST with p = 27 and STIO with p = 30 name no designated pair. -/
theorem test_wellFormed_refuses_stores :
    Instr.wellFormed Config.default (.st 27 16) = false ∧ Instr.wellFormed Config.default (.stio 30 16) = false ∧
    Instr.wellFormed Config.default (.st 26 16) = true ∧ Instr.wellFormed Config.default (.stio 28 16) = true := by decide

/-- The same for the loads. -/
theorem test_wellFormed_refuses_loads :
    Instr.wellFormed Config.default (.ld 16 0) = false ∧ Instr.wellFormed Config.default (.ldio 16 29) = false ∧
    Instr.wellFormed Config.default (.ld 16 28) = true ∧ Instr.wellFormed Config.default (.ldio 16 26) = true := by decide

/-! ## Assembly text (R91) -/

/-- The examples of 30_encoding R91. -/
theorem test_assembly :
    Instr.assembly Config.default (.ldi 16 0x05#8) = some "LDI R16, 5" ∧
    Instr.assembly Config.default (.out 0x01#8 16) = some "OUT 1, R16" ∧
    Instr.assembly Config.default (.sts 0x09#8 16) = some "STS 9, R16" ∧
    Instr.assembly Config.default (.st 26 16) = some "ST X, R16" ∧
    Instr.assembly Config.default (.ld 16 28) = some "LD R16, Y" ∧
    Instr.assembly Config.default .ret = some "RET" ∧
    Instr.assembly Config.default (.st 27 16) = none := by decide

/-! ## The ALU (95 section 2.5; 43_alu R171) -/

/-- The result and the low five status bits. -/
def alu (op : AluOp) (a b : Byte) : Byte × Byte :=
  (aluResult op a b, (aluStatus op a b (Status.ofByte 0x00#8)).toByte)

/-- OR, AND, XOR. -/
theorem test_alu_logic :
    alu .or 0x0F#8 0x30#8 = (0x3F#8, 0x00#8) ∧
    alu .or 0x80#8 0x01#8 = (0x81#8, 0x18#8) ∧
    alu .and 0xF0#8 0x0F#8 = (0x00#8, 0x04#8) ∧
    alu .and 0xFF#8 0x80#8 = (0x80#8, 0x18#8) ∧
    alu .xor 0x55#8 0xFF#8 = (0xAA#8, 0x18#8) ∧
    alu .xor 0x5A#8 0x5A#8 = (0x00#8, 0x04#8) := by decide

/-- ADD, with the document's edge cases. -/
theorem test_alu_add :
    alu .add 0x00#8 0x00#8 = (0x00#8, 0x04#8) ∧
    alu .add 0xFF#8 0x01#8 = (0x00#8, 0x05#8) ∧
    alu .add 0x7F#8 0x01#8 = (0x80#8, 0x0A#8) ∧
    alu .add 0x80#8 0x80#8 = (0x00#8, 0x17#8) ∧
    alu .add 0xFF#8 0xFF#8 = (0xFE#8, 0x19#8) ∧
    alu .add 0x01#8 0xFF#8 = (0x00#8, 0x05#8) := by decide

/-- SUB, the rows x - 0 of conflict C1 among them. -/
theorem test_alu_sub :
    alu .sub 0x00#8 0x00#8 = (0x00#8, 0x05#8) ∧
    alu .sub 0x64#8 0x96#8 = (0xCE#8, 0x0A#8) ∧
    alu .sub 0x80#8 0x01#8 = (0x7F#8, 0x13#8) ∧
    alu .sub 0x03#8 0x05#8 = (0xFE#8, 0x18#8) ∧
    alu .sub 0x01#8 0x00#8 = (0x01#8, 0x01#8) ∧
    alu .sub 0x80#8 0x00#8 = (0x80#8, 0x19#8) ∧
    alu .sub 0x7F#8 0x80#8 = (0xFF#8, 0x0A#8) ∧
    alu .sub 0x80#8 0x7F#8 = (0x01#8, 0x13#8) := by decide

/-! ## One step of each instruction (95 sections 2.3 to 2.10) -/

/-- R120. -/
theorem test_nop :
    after 0x10#8 0x000000#24 (fun s => withSr 0x1F#8 s)
      (fun t => (t.sr.toByte, t.pc)) =
    some (0x1F#8, 0x11#8) := by decide

/-- R121. -/
theorem test_ldi :
    after 0x00#8 0x0110FF#24 id
      (fun t => (t.x 16, t.sr.toByte)) =
    some (0xFF#8, 0x00#8) := by decide

/-- R121: register 0 is ordinary. -/
theorem test_ldi_low :
    after 0x00#8 0x010080#24 id
      (fun t => (t.x 0, t.x 1)) =
    some (0x80#8, 0x00#8) := by decide

/-- R122. -/
theorem test_mov :
    after 0x00#8 0x021110#24 (fun s => s.setX 16 0x5A#8)
      (fun t => (t.x 17, t.x 16)) =
    some (0x5A#8, 0x5A#8) := by decide

/-- R122. -/
theorem test_mov_self :
    after 0x00#8 0x021414#24 (fun s => s.setX 20 0x33#8)
      (fun t => t.x 20) =
    some 0x33#8 := by decide

/-- R123: no flag. -/
theorem test_clr :
    after 0x00#8 0x071000#24 (fun s => withSr 0x08#8 (s.setX 16 0xAB#8))
      (fun t => (t.x 16, t.sr.toByte)) =
    some (0x00#8, 0x08#8) := by decide

/-- R131: the last I/O cell. -/
theorem test_out :
    after 0x00#8 0x03FF10#24 (fun s => s.setX 16 0x7E#8)
      (fun t => (t.byteAt 255, t.byteAt 511)) =
    some (0x7E#8, 0x00#8) := by decide

/-- R131: OUT 9 is not PCICR. -/
theorem test_out_nine :
    after 0x00#8 0x030910#24 (fun s => s.setX 16 0x7E#8)
      (fun t => (t.byteAt 9, t.byteAt 265)) =
    some (0x7E#8, 0x00#8) := by decide

/-- R132. -/
theorem test_inp :
    after 0x00#8 0x041102#24 (fun s => memWrite 2 0x20#8 s)
      (fun t => (t.x 17, t.byteAt 266)) =
    some (0x20#8, 0x00#8) := by decide

/-- R133: the first extended cell. -/
theorem test_sts :
    after 0x00#8 0x050010#24 (fun s => s.setX 16 0x99#8)
      (fun t => (t.byteAt 256, t.byteAt 0)) =
    some (0x99#8, 0x00#8) := by decide

/-- R133: the last cell STS reaches. -/
theorem test_sts_last :
    after 0x00#8 0x05FF10#24 (fun s => s.setX 16 0x66#8)
      (fun t => (t.byteAt 511, t.byteAt 255)) =
    some (0x66#8, 0x00#8) := by decide

/-- R134. -/
theorem test_lds :
    after 0x00#8 0x06120A#24 (fun s => memWrite 266 0x05#8 s)
      (fun t => (t.x 18, t.byteAt 266)) =
    some (0x05#8, 0x05#8) := by decide

/-- R135: pointer 1999. -/
theorem test_stio :
    after 0x00#8 0x261A10#24 (fun s => ((s.setX 26 0xCF#8).setX 27 0x07#8).setX 16 0x11#8)
      (fun t => (t.byteAt 1999, t.memOor)) =
    some (0x11#8, false) := by decide

/-- R135: pointer 2000. -/
theorem test_stio_out :
    after 0x00#8 0x261A10#24 (fun s => ((s.setX 26 0xD0#8).setX 27 0x07#8).setX 16 0x11#8)
      (fun t => (t.dmem, t.memOor)) =
    some ([], true) := by decide

/-- R136: the pointer is read first. -/
theorem test_ldio :
    after 0x00#8 0x271C1C#24 (fun s => memWrite 3 0x44#8 ((s.setX 28 0x03#8).setX 29 0x00#8))
      (fun t => (t.x 28, t.x 29)) =
    some (0x44#8, 0x00#8) := by decide

/-- R136. -/
theorem test_ldio_out :
    after 0x00#8 0x27111C#24 (fun s => ((s.setX 28 0xFF#8).setX 29 0xFF#8).setX 17 0x55#8)
      (fun t => (t.x 17, t.memOor)) =
    some (0x00#8, true) := by decide

/-- R137: pointer 1743. -/
theorem test_st :
    after 0x00#8 0x281A10#24 (fun s => ((s.setX 26 0xCF#8).setX 27 0x06#8).setX 16 0x42#8)
      (fun t => (t.byteAt 1999, t.memOor)) =
    some (0x42#8, false) := by decide

/-- R137: pointer 0xFF00 does not wrap to 0. -/
theorem test_st_no_wrap :
    after 0x00#8 0x281A10#24 (fun s => ((s.setX 26 0x00#8).setX 27 0xFF#8).setX 16 0x42#8)
      (fun t => (t.byteAt 0, t.byteAt 256, t.memOor)) =
    some (0x00#8, 0x00#8, true) := by decide

/-- R138. -/
theorem test_ld :
    after 0x00#8 0x29111C#24 (fun s => memWrite 556 0x42#8 ((s.setX 28 0x2C#8).setX 29 0x01#8))
      (fun t => (t.x 17, t.memOor)) =
    some (0x42#8, false) := by decide

/-- R138. -/
theorem test_ld_out :
    after 0x00#8 0x29111C#24 (fun s => ((s.setX 28 0xD0#8).setX 29 0x06#8).setX 17 0x55#8)
      (fun t => (t.x 17, t.memOor)) =
    some (0x00#8, true) := by decide

/-- R157. -/
theorem test_ori :
    after 0x00#8 0x081030#24 (fun s => withSr 0x20#8 (s.setX 16 0x0F#8))
      (fun t => (t.x 16, t.sr.toByte)) =
    some (0x3F#8, 0x20#8) := by decide

/-- R158. -/
theorem test_andi :
    after 0x00#8 0x09100F#24 (fun s => withSr 0x20#8 (s.setX 16 0xF0#8))
      (fun t => (t.x 16, t.sr.toByte)) =
    some (0x00#8, 0x24#8) := by decide

/-- R159. -/
theorem test_xori :
    after 0x00#8 0x0A10FF#24 (fun s => withSr 0x20#8 (s.setX 16 0x55#8))
      (fun t => (t.x 16, t.sr.toByte)) =
    some (0xAA#8, 0x38#8) := by decide

/-- R160. -/
theorem test_or :
    after 0x00#8 0x0B1011#24 (fun s => withSr 0x20#8 ((s.setX 16 0x81#8).setX 17 0x02#8))
      (fun t => (t.x 16, t.sr.toByte)) =
    some (0x83#8, 0x38#8) := by decide

/-- R161. -/
theorem test_and :
    after 0x00#8 0x0C1011#24 (fun s => withSr 0x20#8 ((s.setX 16 0x3C#8).setX 17 0x0F#8))
      (fun t => (t.x 16, t.sr.toByte)) =
    some (0x0C#8, 0x20#8) := by decide

/-- R162. -/
theorem test_xor :
    after 0x00#8 0x0D1010#24 (fun s => withSr 0x20#8 (s.setX 16 0x5A#8))
      (fun t => (t.x 16, t.sr.toByte)) =
    some (0x00#8, 0x24#8) := by decide

/-- R163. -/
theorem test_addi :
    after 0x00#8 0x0E1001#24 (fun s => withSr 0x20#8 (s.setX 16 0xFF#8))
      (fun t => (t.x 16, t.sr.toByte)) =
    some (0x00#8, 0x25#8) := by decide

/-- R164. -/
theorem test_subi :
    after 0x00#8 0x0F1001#24 (fun s => withSr 0x20#8 (s.setX 16 0x00#8))
      (fun t => (t.x 16, t.sr.toByte)) =
    some (0xFF#8, 0x38#8) := by decide

/-- R165. -/
theorem test_add :
    after 0x00#8 0x101011#24 (fun s => withSr 0x20#8 ((s.setX 16 0x7F#8).setX 17 0x01#8))
      (fun t => (t.x 16, t.x 17, t.sr.toByte)) =
    some (0x80#8, 0x01#8, 0x2A#8) := by decide

/-- R165. -/
theorem test_add_self :
    after 0x00#8 0x101010#24 (fun s => withSr 0x20#8 (s.setX 16 0x80#8))
      (fun t => (t.x 16, t.sr.toByte)) =
    some (0x00#8, 0x37#8) := by decide

/-- R166. -/
theorem test_sub :
    after 0x00#8 0x111011#24 (fun s => withSr 0x20#8 ((s.setX 16 0x05#8).setX 17 0x03#8))
      (fun t => (t.x 16, t.x 17, t.sr.toByte)) =
    some (0x02#8, 0x03#8, 0x21#8) := by decide

/-- R166: 100 - 150. -/
theorem test_sub_overflow :
    after 0x00#8 0x111011#24 (fun s => (s.setX 16 0x64#8).setX 17 0x96#8)
      (fun t => (t.x 16, t.sr.toByte)) =
    some (0xCE#8, 0x0A#8) := by decide

/-- R167. -/
theorem test_inc :
    after 0x00#8 0x121200#24 (fun s => withSr 0x20#8 (s.setX 18 0xFF#8))
      (fun t => (t.x 18, t.sr.toByte)) =
    some (0x00#8, 0x25#8) := by decide

/-- R168. -/
theorem test_dec :
    after 0x00#8 0x131200#24 (fun s => withSr 0x20#8 (s.setX 18 0x00#8))
      (fun t => (t.x 18, t.sr.toByte)) =
    some (0xFF#8, 0x38#8) := by decide

/-- R168. -/
theorem test_dec_overflow :
    after 0x00#8 0x131200#24 (fun s => withSr 0x20#8 (s.setX 18 0x80#8))
      (fun t => (t.x 18, t.sr.toByte)) =
    some (0x7F#8, 0x33#8) := by decide

/-- R169. -/
theorem test_cpi :
    after 0x00#8 0x141005#24 (fun s => withSr 0x20#8 (s.setX 16 0x05#8))
      (fun t => (t.x 16, t.sr.toByte)) =
    some (0x05#8, 0x25#8) := by decide

/-- R170. -/
theorem test_cp :
    after 0x00#8 0x151011#24 (fun s => withSr 0x20#8 ((s.setX 16 0x03#8).setX 17 0x05#8))
      (fun t => (t.x 16, t.x 17, t.sr.toByte)) =
    some (0x03#8, 0x05#8, 0x38#8) := by decide

/-- R181: the self-jump. -/
theorem test_jmp :
    after 0x07#8 0x160700#24 id
      (fun t => t.pc) =
    some 0x07#8 := by decide

/-- Where a branch at 0x04 with the given word leaves the `pc`, for four status bytes (95 section 2.7). -/
def branchPcs (w : Word24) : List (Option Byte) :=
  [0x01#8, 0x05#8, 0x18#8, 0x17#8].map fun f => after 0x04#8 w (withSr f) fun t => t.pc

/-- R182, 95 section 2.7. -/
theorem test_breq : branchPcs 0x172000#24 = [some 0x05#8, some 0x20#8, some 0x05#8, some 0x20#8] := by decide

/-- R183, 95 section 2.7. -/
theorem test_brne : branchPcs 0x182000#24 = [some 0x20#8, some 0x05#8, some 0x20#8, some 0x05#8] := by decide

/-- R184, 95 section 2.7. -/
theorem test_brge : branchPcs 0x192000#24 = [some 0x20#8, some 0x20#8, some 0x05#8, some 0x05#8] := by decide

/-- R185, 95 section 2.7. -/
theorem test_brgt : branchPcs 0x1A2000#24 = [some 0x20#8, some 0x05#8, some 0x05#8, some 0x05#8] := by decide

/-- R186, 95 section 2.7. -/
theorem test_brle : branchPcs 0x1B2000#24 = [some 0x05#8, some 0x20#8, some 0x20#8, some 0x20#8] := by decide

/-- R187, 95 section 2.7. -/
theorem test_brlt : branchPcs 0x1C2000#24 = [some 0x05#8, some 0x05#8, some 0x20#8, some 0x20#8] := by decide

/-- R190: the incremented pc wraps. -/
theorem test_call :
    after 0xFF#8 0x1D2000#24 id
      (fun t => (t.pc, t.depth, t.peekTop)) =
    some (0x20#8, 1, some 0x00#8) := by decide

/-- R190: the push is dropped, the jump is taken. -/
theorem test_call_full :
    after 0x05#8 0x1D2000#24 (fun s => fullStack s)
      (fun t => (t.pc, t.depth, t.stkOvf)) =
    some (0x20#8, 1024, true) := by decide

/-- R188. -/
theorem test_ret :
    after 0x20#8 0x1E0000#24 (fun s => push 0x06#8 s)
      (fun t => (t.pc, t.depth, t.sr.i)) =
    some (0x06#8, 0, false) := by decide

/-- R188. -/
theorem test_ret_empty :
    after 0x20#8 0x1E0000#24 id
      (fun t => (t.pc, t.depth, t.stkUnf)) =
    some (0x00#8, 0, true) := by decide

/-- R189. -/
theorem test_reti :
    after 0x02#8 0x1F0000#24 (fun s => withSr 0x05#8 (push 0x09#8 s))
      (fun t => (t.pc, t.depth, t.sr.toByte)) =
    some (0x09#8, 0, 0x25#8) := by decide

/-- R189. -/
theorem test_reti_empty :
    after 0x02#8 0x1F0000#24 id
      (fun t => (t.pc, t.sr.toByte, t.stkUnf)) =
    some (0x00#8, 0x20#8, true) := by decide

/-- R200. -/
theorem test_push :
    after 0x00#8 0x201000#24 (fun s => s.setX 16 0xAB#8)
      (fun t => (t.depth, t.peekTop, t.x 16)) =
    some (1, some 0xAB#8, 0xAB#8) := by decide

/-- R200. -/
theorem test_push_full :
    after 0x00#8 0x201000#24 (fun s => fullStack (s.setX 16 0xAB#8))
      (fun t => (t.depth, t.stack, t.stkOvf)) =
    some (1024, [], true) := by decide

/-- R201. -/
theorem test_pop :
    after 0x00#8 0x211100#24 (fun s => push 0xAB#8 s)
      (fun t => (t.x 17, t.depth)) =
    some (0xAB#8, 0) := by decide

/-- R201. -/
theorem test_pop_empty :
    after 0x00#8 0x211100#24 (fun s => s.setX 17 0x55#8)
      (fun t => (t.x 17, t.depth, t.stkUnf)) =
    some (0x00#8, 0, true) := by decide

/-- R210: one bit, no flag. -/
theorem test_lsl :
    after 0x00#8 0x2210FF#24 (fun s => withSr 0x00#8 (s.setX 16 0x81#8))
      (fun t => (t.x 16, t.sr.toByte)) =
    some (0x02#8, 0x00#8) := by decide

/-- R211: zero fill, flags kept. -/
theorem test_lsr :
    after 0x00#8 0x231000#24 (fun s => withSr 0x08#8 (s.setX 16 0x81#8))
      (fun t => (t.x 16, t.sr.toByte)) =
    some (0x40#8, 0x08#8) := by decide

/-- R220. -/
theorem test_sei :
    after 0x00#8 0x240000#24 (fun s => withSr 0x04#8 s)
      (fun t => t.sr.toByte) =
    some 0x24#8 := by decide

/-- 95 section 1.5: SEI with source 0 pending and enabled. -/
theorem test_sei_pending :
    after 0x0E#8 0x240000#24 (fun s => memWrite 266 0x01#8 (memWrite 265 0x01#8 s))
      (fun t => (t.pc, t.sr.toByte, t.peekTop, t.byteAt 266)) =
    some (0x02#8, 0x00#8, some 0x0F#8, 0x00#8) := by decide

/-- R221. -/
theorem test_cli :
    after 0x00#8 0x250000#24 (fun s => withSr 0x24#8 s)
      (fun t => t.sr.toByte) =
    some 0x04#8 := by decide

/-- R221: no entry. -/
theorem test_cli_pending :
    after 0x00#8 0x250000#24 (fun s => memWrite 266 0x01#8 (memWrite 265 0x01#8 (withSr 0x20#8 s)))
      (fun t => (t.sr.toByte, t.byteAt 266, t.pc, t.depth)) =
    some (0x00#8, 0x01#8, 0x01#8, 0) := by decide

/-! ## The control unit, interrupts, reset, the host (95 sections 2.2, 2.11 to 2.13) -/

/-- 95 section 2.2: FETCH, then DECODE, of LDI R16, 5 at address 0. -/
theorem test_transitions :
    (doFetch (start 0x00#8 0x011005#24 id)).ir = 0x011005#24 ∧ (doFetch (start 0x00#8 0x011005#24 id)).pc = 0x01#8 ∧
    (doFetch (start 0xFF#8 0x011005#24 id)).cia = 0xFF#8 ∧ (doFetch (start 0xFF#8 0x011005#24 id)).pc = 0x00#8 ∧
    (fetchDecode (start 0x00#8 0x011005#24 id)).opc = 0x01#8 ∧ (fetchDecode (start 0x00#8 0x011005#24 id)).op1 = 0x10#8 ∧
    (fetchDecode (start 0x00#8 0x011005#24 id)).op2 = 0x05#8 ∧
    (fetchDecode (start 0x00#8 0x011005#24 id)).phase = .execute := by decide

/-- A state for the monitor of source 0: previous sample, pin byte, mask. -/
def sampled (prev pin mask : Byte) : State :=
  memWrite 272 mask (memWrite 2 pin (State.reset.setLatch 0 prev))

/-- The `PCIFR` byte and the new sample that the monitor of source 0 leaves. -/
def monitored (s : State) : Byte × Byte := ((monitor 0 s).byteAt 266, (monitor 0 s).latch 0)

/-- 95 section 2.11, the six rows and the kept bit. -/
theorem test_monitor :
    monitored (sampled 0x00#8 0x20#8 0x20#8) = (0x01#8, 0x20#8) ∧
    monitored (sampled 0x20#8 0x00#8 0x20#8) = (0x01#8, 0x00#8) ∧
    monitored (sampled 0x00#8 0x20#8 0x10#8) = (0x00#8, 0x20#8) ∧
    monitored (sampled 0x20#8 0x20#8 0xFF#8) = (0x00#8, 0x20#8) ∧
    monitored (sampled 0x0F#8 0xF0#8 0x01#8) = (0x01#8, 0xF0#8) ∧
    monitored (sampled 0x00#8 0xFF#8 0x00#8) = (0x00#8, 0xFF#8) ∧
    monitored (memWrite 266 0x04#8 (sampled 0x00#8 0x20#8 0x20#8)) = (0x05#8, 0x20#8) := by decide

/-- A state for the check: the `pc` 0x30, then I, `PCICR` and `PCIFR`. -/
def requested (i : Bool) (cr fr : Byte) : State :=
  memWrite 266 fr (memWrite 265 cr ((State.reset.setPc 0x30#8).setI i))

/-- The `PCIFR` byte, I, the `pc`, the depth and the top byte that the check leaves. -/
def checked (s : State) : Byte × Bool × Byte × Nat × Option Byte :=
  ((checkInterrupt s).byteAt 266, (checkInterrupt s).sr.i, (checkInterrupt s).pc, (checkInterrupt s).depth,
    (checkInterrupt s).peekTop)

/-- 95 section 2.12, the rows that service nothing. -/
theorem test_check_nothing :
    checked (requested false 0x07#8 0x07#8) = (0x07#8, false, 0x30#8, 0, none) ∧
    checked (requested true 0x00#8 0x07#8) = (0x07#8, true, 0x30#8, 0, none) ∧
    checked (requested true 0x01#8 0x06#8) = (0x06#8, true, 0x30#8, 0, none) := by decide

/-- 95 section 2.12, the rows that service a source. -/
theorem test_check_services :
    checked (requested true 0x07#8 0x07#8) = (0x06#8, false, 0x02#8, 1, some 0x30#8) ∧
    checked (requested true 0x06#8 0x07#8) = (0x05#8, false, 0x04#8, 1, some 0x30#8) ∧
    checked (requested true 0x04#8 0x04#8) = (0x00#8, false, 0x06#8, 1, some 0x30#8) := by decide

/-- 95 section 2.12: the push dropped on the full stack. -/
theorem test_check_full :
    checked (fullStack (requested true 0x01#8 0x01#8)) = (0x00#8, false, 0x02#8, 1024, some 0x00#8) ∧
    (checkInterrupt (fullStack (requested true 0x01#8 0x01#8))).stkOvf = true := by decide

/-- A state with something in every kind of element, before an unrecognized opcode (95 section 2.13). -/
def beforeReset : State :=
  start 0x02#8 0xFF0000#24 fun s =>
    ((withSr 0x25#8 (push 0x01#8 (memWrite 2 0x20#8 (memWrite 1 0x55#8 (s.setX 16 0x55#8))))).setLatch 0 0x20#8).markUnf

/-- 95 section 2.13: the reset state, with the program kept. -/
theorem test_unrecognized_resets :
    step beforeReset = .next (engineReset beforeReset) ∧ (engineReset beforeReset).prog = beforeReset.prog ∧
    (engineReset beforeReset).dmem = [] ∧ (engineReset beforeReset).pc = 0x00#8 ∧
    (engineReset beforeReset).stkUnf = false := ⟨rfl, by decide⟩

/-- 70 R268: a pin write changes the pin's cell, neither the latch nor `PCIFR`. -/
theorem test_pin_write :
    (hostWritePin 1 0x20#8 State.reset).byteAt 5 = 0x20#8 ∧ (hostWritePin 1 0x20#8 State.reset).byteAt 266 = 0x00#8 ∧
    (hostWritePin 1 0x20#8 State.reset).latch 1 = 0x00#8 := by decide

/-- 95 section 1.4: the last backed cell, and the first address that is not backed. -/
theorem test_memory_edges :
    (memRead 1999 (memWrite 1999 0x5A#8 State.reset)).1 = 0x5A#8 ∧ (memWrite 2000 0x77#8 State.reset).dmem = [] ∧
    (memWrite 2000 0x77#8 State.reset).memOor = true ∧ (memRead 65791 State.reset).1 = 0x00#8 := by decide

/-- 20_memory R51, 30_encoding R91: a loaded image; bits 31..24 of a storage cell are ignored. -/
theorem test_load :
    loadImage (placeAt 0x10#8 [.ldi 16 0x05#8, .nop, .ret]) = [(16, 0x011005#24), (18, 0x1E0000#24)] ∧
    loadImage [(0x03#8, 0xFF240000#32)] = [(3, 0x240000#24)] := by decide

/-! ## Witnesses: for every statement with hypotheses, a state and operands that meet them together -/

/-- UnrecognizedOpcodeForcesFullReset, both clauses, at 0x2A and 0xFF. -/
theorem test_witness_unrecognized :
    (0x2A ≤ (fetchDecode (start 0x00#8 0x2A0000#24 id)).opc.toNat ∧
      (fetchDecode (start 0x00#8 0x2A0000#24 id)).phase = .execute) ∧
    beforeReset.phase = .fetch ∧ 0x2A ≤ (wordOpcode (progRead beforeReset beforeReset.pc)).toNat := by decide

/-- InvalidControlStateForcesFullReset. -/
theorem test_witness_invalid : (inPhase .invalid 0x00#8 0x000000#24).phase = .invalid := by decide

/-- FetchReadsTheLoadedCells, both clauses. -/
theorem test_witness_load :
    ([(0x03#8, 0xFF240000#32), (0xFF#8, 0x1E0000#32)] : List (Byte × BitVec 32)).Pairwise (fun c d => c.1 ≠ d.1) ∧
    ((0xFF#8, 0x1E0000#32) : Byte × BitVec 32) ∈
      ([(0x03#8, 0xFF240000#32), (0xFF#8, 0x1E0000#32)] : List (Byte × BitVec 32)) ∧
    ∀ v, ((0x04#8, v) : Byte × BitVec 32) ∉
      ([(0x03#8, 0xFF240000#32), (0xFF#8, 0x1E0000#32)] : List (Byte × BitVec 32)) := by
  refine ⟨by decide, by decide, fun v h => ?_⟩
  simp at h

/-- FetchReadsRecordsAndIncrements, DecodeSplitsTheWord, TransitionsCycleThroughThreeStates,
RunInstructionIsThreeTransitions, DecodeLatchesAreNeverObserved, PinWritesMoveBeforeTheFetch: each control state, and an
admitted word in EXECUTE. -/
theorem test_witness_phases :
    State.reset.phase = .fetch ∧ (inPhase .decode 0x00#8 0x011005#24).phase = .decode ∧
    (fetchDecode (start 0x00#8 0x281A10#24 id)).phase = .execute ∧
    wordAdmitted Config.default (packWord 0x28#8 0x1A#8 0x10#8) = true ∧
    wordAdmitted Config.default (packWord 0xFF#8 0xFF#8 0xFF#8) = true := by decide

/-- TransitionsCycleThroughThreeStates: an EXECUTE that completes. -/
theorem test_witness_execute :
    ∃ t, transition (fetchDecode (start 0x00#8 0x011005#24 id)) = .next t := ⟨_, rfl⟩

/-- StepRunsTheDecodedInstruction, both clauses, for LDI R16, 5. -/
theorem test_witness_step :
    (start 0x07#8 0x011005#24 id).phase = .fetch ∧
    decode (progRead (start 0x07#8 0x011005#24 id) (start 0x07#8 0x011005#24 id).pc) = .instr (.ldi 16 0x05#8) ∧
    (fetchDecode (start 0x07#8 0x011005#24 id)).phase = .execute ∧
    decodeFields (fetchDecode (start 0x07#8 0x011005#24 id)).opc (fetchDecode (start 0x07#8 0x011005#24 id)).op1
      (fetchDecode (start 0x07#8 0x011005#24 id)).op2 = .instr (.ldi 16 0x05#8) := by decide

/-- WellFormedProgramNeverStops: the empty program, every cell of which is NOP. -/
theorem test_witness_admitted : State.reset.phase = .fetch ∧ ProgramAdmitted State.reset := by
  refine ⟨rfl, fun a => ?_⟩
  show wordAdmitted Config.default 0#24 = true
  decide

/-- StepKeepsTheInvariant. -/
theorem test_witness_step_inv : State.reset.Inv ∧ ∃ t, step State.reset = .next t := ⟨by decide, _, rfl⟩

/-- HostRunsKeepTheInvariant, ProgramIsNeverWritten. -/
theorem test_witness_host_run :
    State.reset.Inv ∧
    ∃ t, hostRun [.writePin 0 0x20#8, .step, .reset, .runInstruction] State.reset = .next t := ⟨by decide, _, rfl⟩

/-- PcAdvancesByOneWithoutTransfer, both clauses, at the wrap. -/
theorem test_witness_pc :
    isTransfer (.ldi 16 0x05#8) = false ∧ (start 0xFF#8 0x011005#24 id).phase = .fetch ∧
    decode (progRead (start 0xFF#8 0x011005#24 id) 0xFF#8) = .instr (.ldi 16 0x05#8) ∧
    exec (.ldi 16 0x05#8) (fetchDecode (start 0xFF#8 0x011005#24 id)) =
      .next ((fetchDecode (start 0xFF#8 0x011005#24 id)).setX 16 0x05#8) ∧
    accepted (((fetchDecode (start 0xFF#8 0x011005#24 id)).setX 16 0x05#8).setPhase .fetch) = none :=
  ⟨by decide, by decide, by decide, rfl, by decide⟩

/-- IndicatorsInfluenceNothing: two states that differ in all three, and a state with each set. -/
theorem test_witness_indicators :
    EqualButIndicators State.reset State.reset.markOvf.markUnf.markOor ∧
    exec .nop State.reset.markOvf.markUnf.markOor = .next State.reset.markOvf.markUnf.markOor ∧
    State.reset.markOvf.markUnf.markOor.stkOvf = true ∧ State.reset.markOvf.markUnf.markOor.stkUnf = true ∧
    State.reset.markOvf.markUnf.markOor.memOor = true := ⟨rfl, rfl, rfl, rfl, rfl⟩

/-- CarryOverflowNegativeInfluenceNothing. -/
theorem test_witness_cvn : EqualButCarryOverflowNegative State.reset (withSr 0x0B#8 State.reset) := rfl

/-- OnlyDestinationRegistersChange, OnlyStackInstructionsTouchTheStack, NoInstructionTouchesTheLatches,
StatusRegisterHasOnlyItsWriters, for LDI R16, 5 and the register R17. -/
theorem test_witness_frame :
    exec (.ldi 16 0x05#8) State.reset = .next (State.reset.setX 16 0x05#8) ∧ dest? (.ldi 16 0x05#8) ≠ some 17 ∧
    usesStack (.ldi 16 0x05#8) = false ∧ callsAlu (.ldi 16 0x05#8) = false ∧ writesI (.ldi 16 0x05#8) = false :=
  ⟨rfl, by decide⟩

/-- OnlyStoresChangeDataMemory: ST through pointer 0 stores to 256, so 255 is another cell. -/
theorem test_witness_stores :
    exec (.st 26 16) State.reset = .next (memWrite 256 0x00#8 State.reset) ∧
    storeAddr? State.reset (.st 26 16) = some 256 ∧ storeAddr? State.reset (.st 26 16) ≠ some 255 := ⟨rfl, by decide⟩

/-- NopChangesNothing: the word 0x00FFFF. -/
theorem test_witness_nop :
    (start 0x00#8 0x00FFFF#24 id).phase = .fetch ∧
    wordOpcode (progRead (start 0x00#8 0x00FFFF#24 id) 0x00#8) = 0x00#8 := by decide

/-- The reserved-field clauses of the encodings, at the ends of their ranges. -/
theorem test_witness_fields :
    32 ≤ (0x20#8).toNat ∧ 32 ≤ (0xFF#8).toNat ∧ 31 ≤ (0x1F#8).toNat ∧ 31 ≤ (0xFF#8).toNat := by decide

/-- The reset state with pair A holding a number. -/
def pointing (hi lo : Byte) : State := (State.reset.setX 27 hi).setX 26 lo

/-- LdioAndLdLoadThroughThePointer, StioAndStStoreThroughThePointer: both designated pairs, one that is not, and pointers on
both sides of the range check, without the offset and with it. -/
theorem test_witness_pointer :
    ((26 : PtrLow) = State.reset.cfg.ptrALo ∧ (28 : PtrLow) = State.reset.cfg.ptrBLo) ∧
    ((27 : PtrLow) ≠ State.reset.cfg.ptrALo ∧ (27 : PtrLow) ≠ State.reset.cfg.ptrBLo) ∧
    (pointerNat 26 (pointing 0x07#8 0xCF#8) < 2000 ∧ 2000 ≤ pointerNat 26 (pointing 0x07#8 0xD0#8)) ∧
    (pointerNat 26 (pointing 0x06#8 0xCF#8) + 256 < 2000 ∧ 2000 ≤ pointerNat 26 (pointing 0x06#8 0xD0#8) + 256) ∧
    (refIoAddress 26 (pointing 0x07#8 0xCF#8) < 2000 ∧ 2000 ≤ refIoAddress 26 (pointing 0x07#8 0xD0#8)) ∧
    (refDataAddress 26 (pointing 0x06#8 0xCF#8) < 2000 ∧ 2000 ≤ refDataAddress 26 (pointing 0x06#8 0xD0#8)) := by decide

/-- DataMemoryReadsBackWrites, BitOperationsTouchOneBit: the addresses where the clauses meet, the last bit. -/
theorem test_witness_addresses : 1999 ≤ 1999 ∧ 2000 ≤ 2000 ∧ 7 < 8 := by decide

/-- CanonicalStoresWithEqualReadsAreEqual. -/
theorem test_witness_canonical :
    Cells.Wf dmemSize ([(0, 0x01#8), (1999, 0xFF#8)] : Cells 8) ∧
    ∀ a, cellAt ([(0, 0x01#8), (1999, 0xFF#8)] : Cells 8) a = cellAt ([(0, 0x01#8), (1999, 0xFF#8)] : Cells 8) a :=
  ⟨by decide, fun _ => rfl⟩

/-- BranchesAfterCompareAreSigned: CPI R16, 1 with R16 = 0x80, and CP. -/
theorem test_witness_compare :
    (∃ d k, Instr.cpi 16 0x01#8 = .cpi d k ∧ 0x80#8 = (State.reset.setX 16 0x80#8).x d ∧ 0x01#8 = k) ∧
    (∃ d r, Instr.cp 16 17 = .cp d r ∧ 0x80#8 = (State.reset.setX 16 0x80#8).x d ∧
      0x00#8 = (State.reset.setX 16 0x80#8).x r) :=
  ⟨⟨16, 0x01#8, by decide⟩, ⟨16, 17, by decide⟩⟩

/-- CallPushesThePcAndJumps, PushAndPopMoveOneByte, ServicingSavesThePcAndGoesToTheVector, RetAndRetiPopThePc,
StackRefinesAList: the empty stack, the full one, and one with room and a byte. -/
theorem test_witness_stack :
    State.reset.sp.val = 1024 ∧ (fullStack State.reset).sp.val = 0 ∧ (push 0xAB#8 State.reset).sp.val ≠ 0 ∧
    (push 0xAB#8 State.reset).sp.val ≠ 1024 := by decide

/-- CallThenReturnRestoresTheCounter: the state after the call itself. -/
theorem test_witness_call :
    (start 0x05#8 0x1D2000#24 id).sp.val ≠ 0 ∧
    exec (.call 0x20#8) (start 0x05#8 0x1D2000#24 id) =
      .next ((push 0x05#8 (start 0x05#8 0x1D2000#24 id)).setPc 0x20#8) := ⟨by decide, rfl⟩

/-- PopsReverseThePushes: two pushes fill a stack with two places left. -/
theorem test_witness_pushes : [0x11#8, 0x22#8].length ≤ (State.reset.setStack [] 2).sp.val := by decide

/-- A word at 0x0E with one byte on the stack, and source 2 pending and enabled. -/
def requesting (w : Word24) : State :=
  start 0x0E#8 w fun s => memWrite 266 0x04#8 (memWrite 265 0x04#8 (push 0x09#8 s))

/-- SeiAndCliWriteOnlyI, RetAndRetiPopThePc: SEI, CLI and RETI with source 2 requesting and no source before it. -/
theorem test_witness_sei :
    ((requesting 0x240000#24).phase = .fetch ∧ (requesting 0x240000#24).sp.val ≠ 0 ∧
      decode (progRead (requesting 0x240000#24) (requesting 0x240000#24).pc) = .instr .sei) ∧
    decode (progRead (requesting 0x250000#24) (requesting 0x250000#24).pc) = .instr .cli ∧
    (decode (progRead (requesting 0x1F0000#24) (requesting 0x1F0000#24).pc) = .instr .reti ∧
      (requesting 0x1F0000#24).sp.val ≠ 1024) ∧
    ((requesting 0x240000#24).byteAt 266).getLsbD 2 = true ∧ ((requesting 0x240000#24).byteAt 265).getLsbD 2 = true ∧
    ((requesting 0x1F0000#24).byteAt 266).getLsbD 2 = true ∧ ((requesting 0x1F0000#24).byteAt 265).getLsbD 2 = true ∧
    (∀ m : Source, m < 2 → ¬(((requesting 0x240000#24).byteAt 266).getLsbD m.val = true ∧
      ((requesting 0x240000#24).byteAt 265).getLsbD m.val = true)) ∧
    (∀ m : Source, m < 2 → ¬(((requesting 0x1F0000#24).byteAt 266).getLsbD m.val = true ∧
      ((requesting 0x1F0000#24).byteAt 265).getLsbD m.val = true)) := by decide

/-- CheckServicesTheFirstEnabledPendingSource, its three clauses: I clear; source 1 accepted past a disabled source 0; nothing
enabled. -/
theorem test_witness_check :
    (requested false 0x07#8 0x07#8).sr.i = false ∧
    ((requested true 0x06#8 0x07#8).sr.i = true ∧ ((requested true 0x06#8 0x07#8).byteAt 266).getLsbD 1 = true ∧
      ((requested true 0x06#8 0x07#8).byteAt 265).getLsbD 1 = true ∧
      ∀ m : Source, m < 1 → ¬(((requested true 0x06#8 0x07#8).byteAt 266).getLsbD m.val = true ∧
        ((requested true 0x06#8 0x07#8).byteAt 265).getLsbD m.val = true)) ∧
    ∀ m : Source, ¬(((requested true 0x01#8 0x06#8).byteAt 266).getLsbD m.val = true ∧
      ((requested true 0x01#8 0x06#8).byteAt 265).getLsbD m.val = true) := by decide

/-- The state of 60_exceptions R247 before cycle k, at 0x0F among NOPs. -/
def pinChange : State :=
  start 0x0F#8 0x00FFFF#24 fun _ => memWrite 265 0x01#8 ((sampled 0x00#8 0x20#8 0x20#8).setI true)

/-- PinChangeIsServicedOneInstructionLater. -/
theorem test_witness_pin_change :
    pinChange.phase = .fetch ∧ pinChange.sr.i = true ∧ (pinChange.byteAt 265).getLsbD 0 = true ∧
    pinChange.byteAt 266 = 0x00#8 ∧ ((pinChange.byteAt 2 ^^^ pinChange.latch 0) &&& pinChange.byteAt 272) ≠ 0x00#8 ∧
    pinChange.sp.val ≠ 0 ∧ decode (progRead pinChange pinChange.pc) = .instr .nop ∧
    decode (progRead pinChange (pinChange.pc + 1#8)) = .instr .nop := by decide

/-- SelfJumpStaysWhileInterruptsAreOff: JMP 0x07 at 0x07. -/
theorem test_witness_self_jump :
    AtSelfJump (start 0x07#8 0x160700#24 id) ∧ (start 0x07#8 0x160700#24 id).sr.i = false :=
  ⟨⟨by decide, by decide⟩, by decide⟩

/-- DecodeOfEncodeIsTheInstruction, OpcodeByteAloneSelects: a word with an unused byte that is not 0, and the ends of the opcode
range. -/
theorem test_witness_words :
    decode 0x1EABCD#24 = .instr .ret ∧ (0x29#8).toNat ≤ 0x29 ∧ opcodeOf .ld = 0x29#8 ∧
    decode 0x2A0000#24 = .unrecognized 0x2A#8 ∧ 0x2A ≤ (wordOpcode 0x2A0000#24).toNat := by decide

/-- UnusedOperandBytesAreIgnored: an opcode of each list. -/
theorem test_witness_unused :
    wordOpcode (encode (.clr 20)) = 0x07#8 ∧ wordOpcode (encode .reti) = 0x1F#8 := by decide

/-- ReservedRegisterFieldsAreRefused, both clauses, at 32 and at 255. -/
theorem test_witness_reserved_register :
    ((start 0x00#8 0x012000#24 id).phase = .fetch ∧ wordOpcode 0x012000#24 = 0x01#8 ∧
      32 ≤ (wordOperand1 (progRead (start 0x00#8 0x012000#24 id) 0x00#8)).toNat) ∧
    (wordOpcode (progRead (start 0x00#8 0x021FFF#24 id) 0x00#8) = 0x02#8 ∧
      32 ≤ (wordOperand2 (progRead (start 0x00#8 0x021FFF#24 id) 0x00#8)).toNat) := by decide

/-- ReservedPointerFieldsAreRefused, both clauses: ST with p = 27 and LDIO with p = 31, neither designated. -/
theorem test_witness_reserved_pointer :
    ((start 0x00#8 0x281B10#24 id).phase = .fetch ∧
      wordOpcode (progRead (start 0x00#8 0x281B10#24 id) 0x00#8) = 0x28#8 ∧
      (wordOperand2 (progRead (start 0x00#8 0x281B10#24 id) 0x00#8)).toNat < 32 ∧
      (wordOperand1 (progRead (start 0x00#8 0x281B10#24 id) 0x00#8)).toNat ≠ Config.default.ptrALo.val ∧
      (wordOperand1 (progRead (start 0x00#8 0x281B10#24 id) 0x00#8)).toNat ≠ Config.default.ptrBLo.val) ∧
    (wordOpcode (progRead (start 0x00#8 0x27101F#24 id) 0x00#8) = 0x27#8 ∧
      (wordOperand1 (progRead (start 0x00#8 0x27101F#24 id) 0x00#8)).toNat < 32 ∧
      (wordOperand2 (progRead (start 0x00#8 0x27101F#24 id) 0x00#8)).toNat ≠ Config.default.ptrALo.val ∧
      (wordOperand2 (progRead (start 0x00#8 0x27101F#24 id) 0x00#8)).toNat ≠ Config.default.ptrBLo.val) := by decide

end Sys2Proof.Tests
end

/-! The thirteen shapes an instruction's dispatch can have (00_scope R10 lists the primitives they are made of), and
what each shape leaves alone. `exec_eq_effect` ties them to the model, so a fact about every instruction is a case split over
the shapes. -/

namespace Sys2Proof.Machine

/-- What a dispatch does to the state, with its operands already read. -/
inductive Effect where
  | idle
  | setReg (d : Reg) (v : Byte)
  | load (d : Reg) (a : Nat)
  | store (a : Nat) (r : Reg)
  | alu (op : AluOp) (d : Reg) (a b : Byte)
  | compare (op : AluOp) (a b : Byte)
  | jumpIf (c : Bool) (t : Byte)
  | callTo (t : Byte)
  | ret
  | reti
  | pushByte (v : Byte)
  | popInto (d : Reg)
  | setEnable (b : Bool)

/-- Carry out an effect by the model's own operations. -/
def Effect.apply (e : Effect) (s : State) : State :=
  match e with
  | .idle          => s
  | .setReg d v    => s.setX d v
  | .load d a      => loadInto d a s
  | .store a r     => storeFrom a r s
  | .alu op d a b  => aluInto op d a b s
  | .compare op a b => aluCompare op a b s
  | .jumpIf c t    => branchIf c t s
  | .callTo t      => (push s.pc s).setPc t
  | .ret           => popPc s
  | .reti          => returnFromInterrupt s
  | .pushByte v    => push v s
  | .popInto d     => (pop s).2.setX d (pop s).1
  | .setEnable b   => s.setI b

/-- The effect of an instruction, its operands read in `s`. -/
def effectOf (i : Instr) (s : State) : Effect :=
  match i with
  | .nop      => .idle
  | .ldi d k  => .setReg d k
  | .mov d r  => .setReg d (s.x r)
  | .out a r  => .store (ioAddress a) r
  | .inp d a  => .load d (ioAddress a)
  | .sts k r  => .store (extAddress k) r
  | .lds d k  => .load d (extAddress k)
  | .clr d    => .setReg d 0x00#8
  | .ori d k  => .alu .or d (s.x d) k
  | .andi d k => .alu .and d (s.x d) k
  | .xori d k => .alu .xor d (s.x d) k
  | .or d r   => .alu .or d (s.x d) (s.x r)
  | .and d r  => .alu .and d (s.x d) (s.x r)
  | .xor d r  => .alu .xor d (s.x d) (s.x r)
  | .addi d k => .alu .add d (s.x d) k
  | .subi d k => .alu .sub d (s.x d) k
  | .add d r  => .alu .add d (s.x d) (s.x r)
  | .sub d r  => .alu .sub d (s.x d) (s.x r)
  | .inc d    => .alu .add d (s.x d) 0x01#8
  | .dec d    => .alu .sub d (s.x d) 0x01#8
  | .cpi d k  => .compare .sub (s.x d) k
  | .cp d r   => .compare .sub (s.x d) (s.x r)
  | .jmp t    => .jumpIf true t
  | .breq t   => .jumpIf (condEq s.sr) t
  | .brne t   => .jumpIf (condNe s.sr) t
  | .brge t   => .jumpIf (condGe s.sr) t
  | .brgt t   => .jumpIf (condGt s.sr) t
  | .brle t   => .jumpIf (condLe s.sr) t
  | .brlt t   => .jumpIf (condLt s.sr) t
  | .call t   => .callTo t
  | .ret      => .ret
  | .reti     => .reti
  | .push r   => .pushByte (s.x r)
  | .pop d    => .popInto d
  | .lsl d    => .setReg d (s.x d <<< 1)
  | .lsr d    => .setReg d (s.x d >>> 1)
  | .sei      => .setEnable true
  | .cli      => .setEnable false
  | .stio p r => .store (refIoAddress p s) r
  | .ldio d p => .load d (refIoAddress p s)
  | .st p r   => .store (refDataAddress p s) r
  | .ld d p   => .load d (refDataAddress p s)

/-- The operation of an instruction behind its pointer check, if it has one (30_encoding R88). -/
def guarded (i : Instr) (s : State) (op : State → State) : Result :=
  match i with
  | .stio p _ | .ldio _ p | .st p _ | .ld _ p => onPair p s op
  | _ => .next (op s)

/-- Every meaning is its effect behind its pointer check. -/
theorem exec_eq_effect (i : Instr) (s : State) : exec i s = guarded i s (effectOf i s).apply := by
  cases i <;> rfl

theorem guarded_next {i : Instr} {s t : State} {op : State → State} (h : guarded i s op = .next t) : t = op s := by
  unfold guarded at h
  split at h
  iterate 4 exact onPair_next h
  exact (Host.Outcome.next.inj h).symm

/-- An instruction that completes has done its effect. -/
theorem exec_next {i : Instr} {s t : State} (h : exec i s = .next t) : t = (effectOf i s).apply s :=
  guarded_next (exec_eq_effect i s ▸ h)

/-! ## Which effects write what -/

/-- The register an effect writes. -/
def Effect.dest? : Effect → Option Reg
  | .setReg d _ | .load d _ | .alu _ d _ _ | .popInto d => some d
  | _ => none

/-- Whether an effect writes the five arithmetic flags. -/
def Effect.writesFlags : Effect → Bool
  | .alu .. | .compare .. => true
  | _ => false

/-- Whether an effect writes I. -/
def Effect.writesI : Effect → Bool
  | .reti | .setEnable _ => true
  | _ => false

/-- Whether an effect may write the `pc`. -/
def Effect.writesPc : Effect → Bool
  | .jumpIf .. | .callTo _ | .ret | .reti => true
  | _ => false

@[simp] theorem dest?_effectOf (i : Instr) (s : State) : (effectOf i s).dest? = dest? i := by
  cases i <;> rfl

@[simp] theorem writesFlags_effectOf (i : Instr) (s : State) : (effectOf i s).writesFlags = callsAlu i := by
  cases i <;> rfl

@[simp] theorem writesI_effectOf (i : Instr) (s : State) : (effectOf i s).writesI = writesI i := by
  cases i <;> rfl

@[simp] theorem writesPc_effectOf (i : Instr) (s : State) : (effectOf i s).writesPc = isTransfer i := by
  cases i <;> rfl

/-- An effect changes no register but its destination. -/
theorem x_apply_of_ne_dest {e : Effect} {r : Reg} (s : State) (h : e.dest? ≠ some r) : (e.apply s).x r = s.x r := by
  cases e with
  | setReg d v | popInto d =>
    have hr : r ≠ d := fun he => h (congrArg some he.symm)
    simp [Effect.apply, State.x_setX, hr]
  | load d a =>
    have hr : r ≠ d := fun he => h (congrArg some he.symm)
    simp [Effect.apply, x_loadInto, hr]
  | alu op d a b =>
    have hr : r ≠ d := fun he => h (congrArg some he.symm)
    simp [Effect.apply, x_aluInto, hr]
  | idle | compare | setEnable => rfl
  | store | jumpIf | callTo | ret | reti | pushByte => exact State.x_congr (by simp [Effect.apply]) r

@[simp] theorem returnFromInterrupt_sr (s : State) : (returnFromInterrupt s).sr = { s.sr with i := true } := by
  simp [returnFromInterrupt]

/-- An effect that writes no arithmetic flag keeps all five. -/
theorem apply_sameArithmeticFlags {e : Effect} (s : State) (h : e.writesFlags = false) :
    SameArithmeticFlags s (e.apply s) := by
  cases e with
  | alu | compare => cases h
  | idle | setReg | setEnable => exact ⟨rfl, rfl, rfl, rfl, rfl⟩
  | load | store | jumpIf | callTo | ret | reti | pushByte | popInto => simp [SameArithmeticFlags, Effect.apply]

/-- An effect that does not write I keeps it. -/
theorem apply_sr_i {e : Effect} (s : State) (h : e.writesI = false) : (e.apply s).sr.i = s.sr.i := by
  cases e with
  | reti | setEnable => cases h
  | idle | setReg | alu | compare => rfl
  | load | store | jumpIf | callTo | ret | pushByte | popInto => simp [Effect.apply]

/-- An effect that is no transfer leaves the `pc` alone. -/
theorem apply_pc {e : Effect} (s : State) (h : e.writesPc = false) : (e.apply s).pc = s.pc := by
  cases e with
  | jumpIf | callTo | ret | reti => cases h
  | idle | setReg | alu | compare | setEnable => rfl
  | load | store | pushByte | popInto => simp [Effect.apply]

/-- No effect touches the control unit's registers, the interrupt latches, the program or the parameters. -/
theorem apply_sameControl (e : Effect) (s : State) : SameControl s (e.apply s) := by
  cases e with
  | idle | setReg | alu | compare | setEnable => exact ⟨rfl, rfl, rfl, rfl, rfl, rfl, rfl, rfl, rfl⟩
  | load | store | jumpIf | callTo | ret | reti | pushByte | popInto => simp [SameControl, Effect.apply]

/-! ## The stores and S -/

theorem apply_dmem_wf (e : Effect) {s : State} (h : Cells.Wf dmemSize s.dmem) :
    Cells.Wf dmemSize (e.apply s).dmem := by
  cases e with
  | store a r => exact memWrite_dmem_wf a _ h
  | idle | setReg | alu | compare | setEnable => exact h
  | load | jumpIf | callTo | ret | reti | pushByte | popInto => simpa [Effect.apply] using h

theorem apply_stack_wf (e : Effect) {s : State} (h : Cells.Wf stackCap s.stack) :
    Cells.Wf stackCap (e.apply s).stack := by
  cases e with
  | callTo | pushByte => exact push_stack_wf _ h
  | idle | setReg | alu | compare | setEnable => exact h
  | load | store | jumpIf | ret | reti | popInto => simpa [Effect.apply] using h

/-- An effect writes N, V and S together, with S as N xor V, or none of them (10_state R27). -/
theorem apply_sr_s (e : Effect) {s : State} (h : s.sr.s = (s.sr.n ^^ s.sr.v)) :
    (e.apply s).sr.s = ((e.apply s).sr.n ^^ (e.apply s).sr.v) := by
  cases he : e.writesFlags with
  | true =>
    cases e with
    | alu | compare => rfl
    | _ => cases he
  | false =>
    obtain ⟨-, hv, -, hn, hs⟩ := apply_sameArithmeticFlags s he
    rw [hs, hn, hv, h]

/-! ## The sticky indicators -/

theorem push_stkOvf (v : Byte) (s : State) : (push v s).stkOvf = (s.stkOvf || decide (s.sp.val = 0)) := by
  by_cases h : s.sp.val = 0
  · simp [push_full v h, h]
  · simp [push_room v h, h]

theorem pop_snd_stkUnf (s : State) : (pop s).2.stkUnf = (s.stkUnf || decide (s.sp.val = stackCap)) := by
  by_cases h : s.sp.val = stackCap
  · simp [pop_empty h, h]
  · simp [pop_nonempty h, h]

/-- No effect clears the overflow indicator (10_state R36). -/
theorem apply_stkOvf (e : Effect) {s : State} (h : s.stkOvf = true) : (e.apply s).stkOvf = true := by
  cases e with
  | callTo | pushByte => simp [Effect.apply, push_stkOvf, h]
  | idle | setReg | alu | compare | setEnable => exact h
  | load | store | jumpIf | ret | reti | popInto => simpa [Effect.apply] using h

/-- No effect clears the underflow indicator (10_state R36). -/
theorem apply_stkUnf (e : Effect) {s : State} (h : s.stkUnf = true) : (e.apply s).stkUnf = true := by
  cases e with
  | ret | popInto => simp [Effect.apply, popPc, pop_snd_stkUnf, h]
  | reti => simp [Effect.apply, returnFromInterrupt, popPc, pop_snd_stkUnf, h]
  | idle | setReg | alu | compare | setEnable => exact h
  | load | store | jumpIf | callTo | pushByte => simpa [Effect.apply] using h

/-- No effect clears the range indicator (10_state R36). -/
theorem apply_memOor (e : Effect) {s : State} (h : s.memOor = true) : (e.apply s).memOor = true := by
  cases e with
  | load => simp [Effect.apply, loadInto_memOor, h]
  | store => simp [Effect.apply, storeFrom_memOor, h]
  | idle | setReg | alu | compare | setEnable => exact h
  | jumpIf | callTo | ret | reti | pushByte | popInto => simpa [Effect.apply] using h

theorem service_stkOvf (n : Source) {s : State} (h : s.stkOvf = true) : (service n s).stkOvf = true := by
  simp [service, push_stkOvf, h]

@[simp] theorem service_memOor (n : Source) (s : State) : (service n s).memOor = s.memOor := by
  simp [service, memClearBit_memOor _ _ pcifr_inRange]

@[simp] theorem checkInterrupt_memOor (s : State) : (checkInterrupt s).memOor = s.memOor := by
  rcases checkInterrupt_cases s with ⟨-, e⟩ | ⟨n, -, e⟩ <;> simp [e]

@[simp] theorem executeTail_memOor (s : State) : (executeTail s).memOor = s.memOor := by
  simp [executeTail, monitors_memOor]

/-- The tail never clears the overflow indicator: only a dropped push of the `pc` moves it (60_exceptions R241). -/
theorem executeTail_stkOvf {s : State} (h : s.stkOvf = true) : (executeTail s).stkOvf = true := by
  rw [executeTail, monitors_stkOvf]
  rcases checkInterrupt_cases (s.setPhase .fetch) with ⟨-, e⟩ | ⟨n, -, e⟩ <;> rw [e]
  · exact h
  · exact service_stkOvf n h

end Sys2Proof.Machine

/-! The invariant holds at reset and power-up, and every part of a step keeps it. -/

namespace Sys2Proof.Machine

theorem apply_inv (e : Effect) {s : State} (h : s.Inv) : (e.apply s).Inv := by
  obtain ⟨hdmem, hstack, hprog, hs, hphase⟩ := h
  obtain ⟨ephase, -, -, -, -, -, -, eprog, -⟩ := apply_sameControl e s
  exact ⟨apply_dmem_wf e hdmem, apply_stack_wf e hstack, eprog ▸ hprog, apply_sr_s e hs, ephase ▸ hphase⟩

theorem nil_wf {w : Nat} (bound : Nat) : Cells.Wf (w := w) bound [] :=
  ⟨.nil, by simp⟩

/-- A full reset needs nothing but a canonical program. -/
theorem engineReset_inv {s : State} (h : Cells.Wf progSize s.prog) : (engineReset s).Inv :=
  ⟨nil_wf _, nil_wf _, h, rfl, show Phase.fetch ≠ .invalid by decide⟩

theorem fetchDecode_inv {s : State} (h : s.Inv) : (fetchDecode s).Inv := by
  obtain ⟨hdmem, hstack, hprog, hs, -⟩ := h
  exact ⟨hdmem, hstack, hprog, hs, by simp⟩

theorem executeTail_inv {s : State} (h : s.Inv) : (executeTail s).Inv := by
  obtain ⟨hdmem, hstack, hprog, hs, -⟩ := h
  refine ⟨executeTail_dmem_wf hdmem, executeTail_stack_wf hstack, by simpa using hprog, ?_, by simp⟩
  rcases executeTail_sr s with e | e <;> rw [e] <;> exact hs

theorem dispatch_inv {s t : State} (h : s.Inv) (ht : dispatch s = .next t) : t.Inv := by
  rcases dispatch_cases s with ⟨i, -, e⟩ | ⟨o, -, e⟩ | ⟨b, -, e⟩ | ⟨b, -, e⟩ <;> rw [e] at ht
  · exact exec_next ht ▸ apply_inv _ h
  · obtain ⟨-, -, hprog, -, -⟩ := h
    exact Host.Outcome.next.inj ht ▸ engineReset_inv hprog
  · cases ht
  · cases ht

theorem doExecute_inv {s t : State} (h : s.Inv) (ht : doExecute s = .next t) : t.Inv := by
  obtain ⟨u, hu, rfl⟩ := doExecute_next.mp ht
  exact executeTail_inv (dispatch_inv h hu)

theorem runInstruction_inv {s t : State} (h : s.Inv) (ht : runInstruction s = .next t) : t.Inv := by
  rcases runInstruction_cases ht with ⟨-, he⟩ | ⟨-, rfl⟩
  · exact doExecute_inv (fetchDecode_inv h) he
  · obtain ⟨-, -, hprog, -, -⟩ := h
    exact engineReset_inv hprog

/-- The loader writes inside the program memory, from the empty store on (20_memory R51). -/
theorem loadImage_wf (cells : List (Byte × BitVec 32)) : Cells.Wf progSize (loadImage cells) :=
  List.foldlRecOn cells _ (nil_wf _) fun _ hm c _ => writeCell_wf _ _ c.1.isLt hm

theorem powerUp_inv (cfg : Config) {image : Cells 24} (h : Cells.Wf progSize image) : (powerUp cfg image).Inv :=
  engineReset_inv (s := powerUp cfg image) h

/-- Settles O12: each part of a step keeps the invariant. -/
theorem stepKeepsTheInvariant : Obligations.StepKeepsTheInvariant :=
  fun _ _ h ht => runInstruction_inv h ht

/-- Settles O13: reset has the empty program, power-up the loader's image, which is canonical. -/
theorem resetMeetsTheInvariant : Obligations.ResetMeetsTheInvariant :=
  ⟨engineReset_inv (s := State.reset) (nil_wf _), fun cfg cells => powerUp_inv cfg (loadImage_wf cells)⟩

end Sys2Proof.Machine

/-! What the instructions leave alone: registers, control latches, status bits, the `pc`; and the status byte. -/

namespace Sys2Proof.Machine

/-- Settles O20: the effect's destination is the instruction's. -/
theorem onlyDestinationRegistersChange : Obligations.OnlyDestinationRegistersChange := by
  intro i s t h r hr
  rw [exec_next h]
  exact x_apply_of_ne_dest s (by simpa using hr)

/-- Settles O23: no effect touches them. -/
theorem noInstructionTouchesTheLatches : Obligations.NoInstructionTouchesTheLatches := by
  intro i s t h
  exact exec_next h ▸ apply_sameControl _ s

theorem service_sameArithmeticFlags (n : Source) (s : State) : SameArithmeticFlags s (service n s) := by
  simp [SameArithmeticFlags]

theorem engineReset_toByte (s : State) : (engineReset s).sr.toByte = 0x00#8 := by
  rw [show (engineReset s).sr = State.reset.sr from rfl]
  decide

/-- Settles O24: the effects that write the five flags are those of the ALU instructions, those that write I are those of
SEI, CLI and RETI. -/
theorem statusRegisterHasOnlyItsWriters : Obligations.StatusRegisterHasOnlyItsWriters := by
  refine ⟨fun i s t h => ?_, fun s => ⟨_, rfl, rfl⟩, fun s => ⟨_, rfl, rfl⟩, fun s => ⟨_, rfl, rfl⟩,
    fun n s => ⟨by simp, service_sameArithmeticFlags n s⟩, monitor_sr, engineReset_toByte⟩
  rw [exec_next h]
  exact ⟨fun hf => apply_sameArithmeticFlags s (by simpa using hf), fun hi => apply_sr_i s (by simpa using hi)⟩

/-- Where the check accepts nothing, the tail of EXECUTE leaves the `pc` alone (60_exceptions R240). -/
theorem executeTail_pc_of_not_accepted {t : State} (h : accepted (t.setPhase .fetch) = none) :
    (executeTail t).pc = t.pc := by
  simp [executeTail, checkInterrupt, h]

theorem exec_pc {i : Instr} {s t : State} (hi : isTransfer i = false) (h : exec i s = .next t) : t.pc = s.pc := by
  rw [exec_next h]
  exact apply_pc s (by simpa using hi)

/-- Settles O16: only a transfer's effect writes the `pc`, so a step without one keeps the counter its FETCH incremented. -/
theorem pcAdvancesByOneWithoutTransfer : Obligations.PcAdvancesByOneWithoutTransfer := by
  refine ⟨fun i s t => exec_pc, fun s i t hp hd hi ht ha => ⟨executeTail t, ?_, ?_⟩⟩
  · rw [step, runInstruction_instr hp hd, ht, andThen]
  · rw [executeTail_pc_of_not_accepted ha, exec_pc hi ht, fetchDecode_pc, BitVec.toNat_add]
    rfl

/-- FETCH and DECODE overwrite the five latches (10_state R33, R35). -/
theorem fetchDecode_latches (s : State) (ir : Word24) (opc op1 op2 cia : Byte) :
    fetchDecode { s with ir := ir, opc := opc, op1 := op1, op2 := op2, cia := cia } = fetchDecode s := rfl

theorem runInstruction_fetch {s : State} (hp : s.phase = .fetch) :
    runInstruction s = doExecute (fetchDecode s) := by
  simp only [runInstruction, hp]

/-- Settles O17: FETCH and DECODE overwrite the latches before EXECUTE reads them. -/
theorem decodeLatchesAreNeverObserved : Obligations.DecodeLatchesAreNeverObserved := by
  intro s ir opc op1 op2 cia hp
  rw [step, step, runInstruction_fetch hp, runInstruction_fetch (by exact hp), fetchDecode_latches]

/-- A bit above I is a bit of the byte's two leading zeros (10_state R26). -/
theorem toByte_high_bits (f : Status) {j : Nat} (h : 6 ≤ j) : f.toByte.getLsbD j = false := by
  change BitVec.getLsbD (w := 2 + 1 + 1 + 1 + 1 + 1 + 1) f.toByte j = false
  unfold Status.toByte
  simp only [BitVec.getLsbD_append]
  iterate 6 rw [if_neg (by omega)]
  exact BitVec.getLsbD_zero

/-- Settles O5: `ofByte` reads bits 0 to 5 back. -/
theorem statusByteLayout : Obligations.StatusByteLayout := by
  intro f
  have h := ofByte_toByte f
  refine ⟨congrArg Status.c h, congrArg Status.v h, congrArg Status.z h, congrArg Status.n h, congrArg Status.s h,
    congrArg Status.i h, toByte_high_bits f (by decide), toByte_high_bits f (by decide), h⟩

end Sys2Proof.Machine

/-! Two groups of fields that a step never reads but to write them: the three sticky indicators, and C, V and N. An
operation is oblivious to a group when hiding it first changes nothing but the group; every part of a step is. -/

namespace Sys2Proof.Machine

/-- A group of fields. -/
inductive FieldGroup where
  /-- `stk_ovf`, `stk_unf`, `mem_oor` (10_state R36). -/
  | indicators
  /-- C, V and N (10_state R27). -/
  | cvn

/-- The state with every field of the group put to false. -/
def State.hide (g : FieldGroup) (s : State) : State :=
  match g with
  | .indicators => { s with stkOvf := false, stkUnf := false, memOor := false }
  | .cvn        => { s with sr := { s.sr with c := false, v := false, n := false } }

/-- An outcome with the group hidden in its next state. -/
def hideOutcome (g : FieldGroup) (r : Result) : Result := andThen r fun t => .next (t.hide g)

/-- What the group holds before the operation shows in nothing but the group after it. -/
def Oblivious (g : FieldGroup) (f : State → State) : Prop := ∀ s, (f (s.hide g)).hide g = (f s).hide g

/-! ## What hiding leaves -/

@[simp] theorem State.hide_regs (g : FieldGroup) (s : State) : (s.hide g).regs = s.regs := by cases g <;> rfl
@[simp] theorem State.hide_pc (g : FieldGroup) (s : State) : (s.hide g).pc = s.pc := by cases g <;> rfl
@[simp] theorem State.hide_phase (g : FieldGroup) (s : State) : (s.hide g).phase = s.phase := by cases g <;> rfl
@[simp] theorem State.hide_opc (g : FieldGroup) (s : State) : (s.hide g).opc = s.opc := by cases g <;> rfl
@[simp] theorem State.hide_op1 (g : FieldGroup) (s : State) : (s.hide g).op1 = s.op1 := by cases g <;> rfl
@[simp] theorem State.hide_op2 (g : FieldGroup) (s : State) : (s.hide g).op2 = s.op2 := by cases g <;> rfl
@[simp] theorem State.hide_dmem (g : FieldGroup) (s : State) : (s.hide g).dmem = s.dmem := by cases g <;> rfl
@[simp] theorem State.hide_stack (g : FieldGroup) (s : State) : (s.hide g).stack = s.stack := by cases g <;> rfl
@[simp] theorem State.hide_sp (g : FieldGroup) (s : State) : (s.hide g).sp = s.sp := by cases g <;> rfl
@[simp] theorem State.hide_prev (g : FieldGroup) (s : State) : (s.hide g).prev = s.prev := by cases g <;> rfl
@[simp] theorem State.hide_prog (g : FieldGroup) (s : State) : (s.hide g).prog = s.prog := by cases g <;> rfl
@[simp] theorem State.hide_cfg (g : FieldGroup) (s : State) : (s.hide g).cfg = s.cfg := by cases g <;> rfl
@[simp] theorem State.hide_sr_i (g : FieldGroup) (s : State) : (s.hide g).sr.i = s.sr.i := by cases g <;> rfl
@[simp] theorem State.hide_hide (g : FieldGroup) (s : State) : (s.hide g).hide g = s.hide g := by cases g <;> rfl

@[simp] theorem State.x_hide (g : FieldGroup) (s : State) (r : Reg) : (s.hide g).x r = s.x r := State.x_congr (by simp) r
@[simp] theorem State.latch_hide (g : FieldGroup) (s : State) (n : Source) : (s.hide g).latch n = s.latch n :=
  State.latch_congr (by simp) n
@[simp] theorem State.byteAt_hide (g : FieldGroup) (s : State) (a : Nat) : (s.hide g).byteAt a = s.byteAt a :=
  State.byteAt_congr (s := s) (t := s.hide g) (by simp) a

@[simp] theorem effectOf_hide (g : FieldGroup) (i : Instr) (s : State) : effectOf i (s.hide g) = effectOf i s := by
  cases g <;> cases i <;> rfl

/-! ## The relations of the statements are equality up to a group -/

theorem equalButIndicators_of_hide {s t : State} (h : s.hide .indicators = t.hide .indicators) :
    EqualButIndicators s t := by
  cases s; cases t
  simp_all [State.hide, EqualButIndicators]

theorem hide_of_equalButIndicators {s t : State} (h : EqualButIndicators s t) :
    s.hide .indicators = t.hide .indicators := by
  rw [h]; rfl

theorem equalButCvn_of_hide {s t : State} (h : s.hide .cvn = t.hide .cvn) : EqualButCarryOverflowNegative s t := by
  cases s; cases t
  simp_all [State.hide, EqualButCarryOverflowNegative]

theorem hide_of_equalButCvn {s t : State} (h : EqualButCarryOverflowNegative s t) : s.hide .cvn = t.hide .cvn := by
  rw [h]; rfl

/-! ## Updates and shared operations -/

theorem Oblivious.comp {g : FieldGroup} {f k : State → State} (hk : Oblivious g k) (hf : Oblivious g f) :
    Oblivious g (fun s => k (f s)) := fun s => by
  rw [← hk (f (s.hide g)), hf s, hk (f s)]

variable (g : FieldGroup)

theorem oblivious_id : Oblivious g fun s => s := State.hide_hide g

theorem oblivious_setX (r : Reg) (v : Byte) : Oblivious g fun s => s.setX r v := fun _ => by cases g <;> rfl
theorem oblivious_setPc (t : Byte) : Oblivious g fun s => s.setPc t := fun _ => by cases g <;> rfl
theorem oblivious_setI (b : Bool) : Oblivious g fun s => s.setI b := fun _ => by cases g <;> rfl
theorem oblivious_setPhase (p : Phase) : Oblivious g fun s => s.setPhase p := fun _ => by cases g <;> rfl
theorem oblivious_setLatch (n : Source) (v : Byte) : Oblivious g fun s => s.setLatch n v := fun _ => by cases g <;> rfl
theorem oblivious_setDmem (m : Cells 8) : Oblivious g fun s => s.setDmem m := fun _ => by cases g <;> rfl
theorem oblivious_setStack (m : Cells 8) (p : Fin 1025) : Oblivious g fun s => s.setStack m p :=
  fun _ => by cases g <;> rfl
theorem oblivious_markOor : Oblivious g State.markOor := fun _ => by cases g <;> rfl
theorem oblivious_markOvf : Oblivious g State.markOvf := fun _ => by cases g <;> rfl
theorem oblivious_markUnf : Oblivious g State.markUnf := fun _ => by cases g <;> rfl
theorem oblivious_aluCompare (op : AluOp) (a b : Byte) : Oblivious g (aluCompare op a b) := fun _ => by cases g <;> rfl
theorem oblivious_engineReset : Oblivious g engineReset := fun _ => by cases g <;> rfl

theorem oblivious_memWrite (a : Nat) (v : Byte) : Oblivious g (memWrite a v) := fun s => by
  unfold memWrite
  split
  · simpa using oblivious_setDmem g (writeCell s.dmem a v) s
  · exact oblivious_markOor g s

theorem oblivious_memRead_snd (a : Nat) : Oblivious g fun s => (memRead a s).2 := fun s => by
  simp only [memRead_snd_eq]
  split
  · exact oblivious_id g s
  · exact oblivious_markOor g s

theorem oblivious_push (v : Byte) : Oblivious g (push v) := fun s => by
  by_cases h : s.sp.val = 0
  · rw [push_full v h, push_full v (by simpa using h)]
    exact oblivious_markOvf g s
  · rw [push_room v h, push_room v (by simpa using h)]
    simpa using oblivious_setStack g _ _ s

theorem pop_fst_hide (s : State) : (pop (s.hide g)).1 = (pop s).1 := by
  by_cases h : s.sp.val = stackCap
  · rw [pop_empty h, pop_empty (by simpa using h)]
  · rw [pop_nonempty h, pop_nonempty (by simpa using h)]
    simp [State.stackByte]

theorem oblivious_pop_snd : Oblivious g fun s => (pop s).2 := fun s => by
  by_cases h : s.sp.val = stackCap
  · simp only [pop_empty h, pop_empty (s := s.hide g) (by simpa using h)]
    exact oblivious_markUnf g s
  · simp only [pop_nonempty h, pop_nonempty (s := s.hide g) (by simpa using h)]
    simpa using oblivious_setStack g _ _ s

/-! ## Operations that read what they write -/

/-- An operation with an operand read in the state: the operand must not show the group. -/
theorem Oblivious.read {g : FieldGroup} {α : Type} {f : α → State → State} {v : State → α}
    (hf : ∀ a, Oblivious g (f a)) (hv : ∀ s, v (s.hide g) = v s) : Oblivious g (fun s => f (v s) s) := fun s => by
  simp only [hv s]
  exact hf (v s) s

theorem oblivious_pushPc : Oblivious g fun s => push s.pc s :=
  .read (oblivious_push g) (State.hide_pc g)

theorem oblivious_popPc : Oblivious g popPc :=
  .read (f := fun v s => (pop s).2.setPc v) (fun v => (oblivious_setPc g v).comp (oblivious_pop_snd g))
    (pop_fst_hide g)

theorem oblivious_apply (e : Effect) : Oblivious g e.apply := by
  cases e with
  | idle => exact oblivious_id g
  | setReg d v => exact oblivious_setX g d v
  | load d a =>
    exact .read (f := fun v s => (memRead a s).2.setX d v)
      (fun v => (oblivious_setX g d v).comp (oblivious_memRead_snd g a)) (State.byteAt_hide g · a)
  | store a r => exact .read (f := memWrite a) (oblivious_memWrite g a) (State.x_hide g · r)
  | alu op d a b => exact (oblivious_setX g d _).comp (oblivious_aluCompare g op a b)
  | compare op a b => exact oblivious_aluCompare g op a b
  | jumpIf c t =>
    cases c with
    | true => exact oblivious_setPc g t
    | false => exact oblivious_id g
  | callTo t => exact (oblivious_setPc g t).comp (oblivious_pushPc g)
  | ret => exact oblivious_popPc g
  | reti => exact (oblivious_setI g true).comp (oblivious_popPc g)
  | pushByte v => exact oblivious_push g v
  | popInto d =>
    exact .read (f := fun v s => (pop s).2.setX d v)
      (fun v => (oblivious_setX g d v).comp (oblivious_pop_snd g)) (pop_fst_hide g)
  | setEnable b => exact oblivious_setI g b

/-! ## Interrupts and the tail -/

theorem oblivious_memSetBit (a k : Nat) : Oblivious g (memSetBit a k) :=
  .read (f := fun v s => memWrite a (v ||| (1#8 <<< k)) (memRead a s).2)
    (fun _ => (oblivious_memWrite g a _).comp (oblivious_memRead_snd g a)) (State.byteAt_hide g · a)

theorem oblivious_memClearBit (a k : Nat) : Oblivious g (memClearBit a k) :=
  .read (f := fun v s => memWrite a (v &&& ~~~(1#8 <<< k)) (memRead a s).2)
    (fun _ => (oblivious_memWrite g a _).comp (oblivious_memRead_snd g a)) (State.byteAt_hide g · a)

theorem oblivious_goToVector (n : Source) : Oblivious g fun s => (s.setI false).setPc (s.vector n) :=
  .read (f := fun v s => (s.setI false).setPc v) (fun v => (oblivious_setPc g v).comp (oblivious_setI g false))
    fun s => by simp [State.vector]

theorem oblivious_service (n : Source) : Oblivious g (service n) :=
  (oblivious_goToVector g n).comp ((oblivious_pushPc g).comp (oblivious_memClearBit g _ _))

theorem accepted_hide (s : State) : accepted (s.hide g) = accepted s :=
  accepted_congr (by simp) (by simp)

theorem oblivious_checkInterrupt : Oblivious g checkInterrupt := fun s => by
  unfold checkInterrupt
  rw [accepted_hide]
  cases accepted s with
  | some n => exact oblivious_service g n s
  | none => exact oblivious_id g s

theorem pinChanged_hide (n : Source) (s : State) : pinChanged (s.hide g) n = pinChanged s n := by
  simp [pinChanged]

theorem oblivious_monitor (n : Source) : Oblivious g (monitor n) := fun s => by
  simp only [monitor, pinChanged_hide, State.byteAt_hide]
  split
  · exact (oblivious_setLatch g n _).comp (oblivious_memSetBit g _ _) s
  · exact oblivious_setLatch g n _ s

theorem oblivious_executeTail : Oblivious g executeTail :=
  (((oblivious_monitor g 2).comp ((oblivious_monitor g 1).comp (oblivious_monitor g 0))).comp
    (oblivious_checkInterrupt g)).comp (oblivious_setPhase g .fetch)

/-! ## The step -/

/-- Hiding the group commutes with carrying an outcome on by an oblivious operation. -/
theorem hideOutcome_andThen {f : State → State} (hf : Oblivious g f) (r : Result) :
    hideOutcome g (andThen r fun t => .next (f t)) = andThen (hideOutcome g r) fun t => .next ((f t).hide g) := by
  cases r with
  | next s => exact congrArg Host.Outcome.next (hf s).symm
  | fault | refused => rfl

theorem hideOutcome_next {f : State → State} (hf : Oblivious g f) (s : State) :
    hideOutcome g (.next (f (s.hide g))) = hideOutcome g (.next (f s)) :=
  congrArg Host.Outcome.next (hf s)

theorem onPair_hide (p : PtrLow) (s : State) {op : State → State} (ho : Oblivious g op) :
    hideOutcome g (onPair p (s.hide g) op) = hideOutcome g (onPair p s op) := by
  unfold onPair
  rw [State.hide_cfg]
  split
  · exact hideOutcome_next g ho s
  · rfl

theorem exec_hide (i : Instr) (s : State) : hideOutcome g (exec i (s.hide g)) = hideOutcome g (exec i s) := by
  rw [exec_eq_effect, exec_eq_effect, effectOf_hide]
  have ho := oblivious_apply g (effectOf i s)
  unfold guarded
  split
  iterate 4 exact onPair_hide g _ s ho
  exact hideOutcome_next g ho s

theorem dispatch_hide (s : State) : hideOutcome g (dispatch (s.hide g)) = hideOutcome g (dispatch s) := by
  unfold dispatch
  rw [State.hide_opc, State.hide_op1, State.hide_op2]
  split
  · exact exec_hide g _ s
  · exact hideOutcome_next g (oblivious_engineReset g) s
  · rfl
  · rfl

theorem fetchDecode_hide (s : State) : fetchDecode (s.hide g) = (fetchDecode s).hide g := by
  cases g <;> rfl

theorem doExecute_hide (s : State) : hideOutcome g (doExecute (s.hide g)) = hideOutcome g (doExecute s) := by
  have ht := oblivious_executeTail g
  rw [doExecute, doExecute, hideOutcome_andThen g ht, hideOutcome_andThen g ht, dispatch_hide]

/-- A step reads no field of the group but to write the group. -/
theorem step_hide (s : State) : hideOutcome g (step (s.hide g)) = hideOutcome g (step s) := by
  unfold step runInstruction
  rw [State.hide_phase]
  cases s.phase with
  | fetch => exact fetchDecode_hide g s ▸ doExecute_hide g (fetchDecode s)
  | decode | execute => rfl
  | invalid => exact hideOutcome_next g (oblivious_engineReset g) s

variable {g}

theorem step_of_equal_hide {s t : State} (h : s.hide g = t.hide g) :
    hideOutcome g (step s) = hideOutcome g (step t) := by
  rw [← step_hide, h, step_hide]

/-- Outcomes equal up to the group are related by every relation that equality up to the group implies. -/
theorem outcomesRelated_of_hideOutcome {R : State → State → Prop}
    (hR : ∀ {s t : State}, s.hide g = t.hide g → R s t) {a b : Result} (h : hideOutcome g a = hideOutcome g b) :
    OutcomesRelated R a b := by
  cases a with
  | next s =>
    cases b with
    | next t => exact hR (Host.Outcome.next.inj h)
    | fault | refused => cases h
  | fault e => cases e
  | refused e =>
    cases b with
    | refused f => exact Host.Outcome.refused.inj h
    | next | fault => cases h

/-- Settles O18: a step is oblivious to the indicators, no effect clears one, and the tail writes at most the overflow
indicator, by a dropped push. -/
theorem indicatorsInfluenceNothing : Obligations.IndicatorsInfluenceNothing := by
  refine ⟨fun s s' h => ?_, fun i s t h => ?_, fun s => ⟨executeTail_stkOvf, by simp, by simp⟩⟩
  · exact outcomesRelated_of_hideOutcome equalButIndicators_of_hide (step_of_equal_hide (hide_of_equalButIndicators h))
  · rw [exec_next h]
    exact ⟨apply_stkOvf _, apply_stkUnf _, apply_memOor _⟩

/-- Settles O19: a step is oblivious to C, V and N. -/
theorem carryOverflowNegativeInfluenceNothing : Obligations.CarryOverflowNegativeInfluenceNothing :=
  fun _ _ h => outcomesRelated_of_hideOutcome equalButCvn_of_hide (step_of_equal_hide (hide_of_equalButCvn h))

end Sys2Proof.Machine

/-! Program memory: what the loader leaves in it, and that no move of the host writes it. -/

namespace Sys2Proof.Machine

/-! ## The loader -/

/-- The last storage cell of a list is the one its address reads; every other address reads the list before it. -/
theorem cellAt_loadImage_concat (cells : List (Byte × BitVec 32)) (c : Byte × BitVec 32) (a : Byte) :
    cellAt (loadImage (cells ++ [c])) a.toNat =
      if a = c.1 then c.2.setWidth 24 else cellAt (loadImage cells) a.toNat := by
  simp [loadImage, cellAt_writeCell, BitVec.toNat_inj]

theorem cellAt_loadImage_of_mem {cells : List (Byte × BitVec 32)} (hd : cells.Pairwise fun c d => c.1 ≠ d.1)
    {a : Byte} {v : BitVec 32} (h : (a, v) ∈ cells) : cellAt (loadImage cells) a.toNat = v.setWidth 24 := by
  induction cells using List.reverseRecOn with
  | nil => cases h
  | append_singleton cells c ih =>
    obtain ⟨hcells, -, hc⟩ := List.pairwise_append.mp hd
    rw [cellAt_loadImage_concat]
    rcases List.mem_append.mp h with h | h
    · rw [if_neg (hc _ h c (List.mem_singleton_self c)), ih hcells h]
    · rw [← List.mem_singleton.mp h, if_pos rfl]

theorem cellAt_loadImage_of_not_mem {cells : List (Byte × BitVec 32)} {a : Byte} (h : ∀ v, (a, v) ∉ cells) :
    cellAt (loadImage cells) a.toNat = 0#24 := by
  induction cells using List.reverseRecOn with
  | nil => rfl
  | append_singleton cells c ih =>
    have hc : a ≠ c.1 := fun e => h c.2 (e ▸ List.mem_append_right cells (List.mem_singleton_self c))
    rw [cellAt_loadImage_concat, if_neg hc, ih fun v hv => h v (List.mem_append_left _ hv)]

/-- Settles O4: a list with distinct addresses writes each of its cells once. -/
theorem fetchReadsTheLoadedCells : Obligations.FetchReadsTheLoadedCells := by
  intro cfg cells a hd
  refine ⟨fun v hv => ?_, cellAt_loadImage_of_not_mem⟩
  exact (congrArg BitVec.toNat (cellAt_loadImage_of_mem hd hv)).trans (BitVec.toNat_setWidth 24 v)

/-! ## The moves of the host -/

theorem andThen_eq_next {r : Result} {f : State → Result} {t : State} :
    andThen r f = .next t ↔ ∃ s, r = .next s ∧ f s = .next t := by
  cases r <;> simp [andThen]

/-- What every move of the host keeps, a run keeps (70 R267). -/
theorem hostRun_keeps {P : State → Prop} (hmove : ∀ {m s t}, P s → hostMove m s = .next t → P t)
    {ms : List HostMove} {s t : State} (hs : P s) (h : hostRun ms s = .next t) : P t := by
  induction ms generalizing s with
  | nil => exact Host.Outcome.next.inj h ▸ hs
  | cons m ms ih =>
    obtain ⟨u, hu, ht⟩ := andThen_eq_next.mp h
    exact ih (hmove hs hu) ht

/-- The program and the parameters are unchanged (10_state R40). -/
def SameParameters (s t : State) : Prop := t.prog = s.prog ∧ t.cfg = s.cfg

theorem SameParameters.trans {s t u : State} (h : SameParameters s t) (k : SameParameters t u) : SameParameters s u := by
  obtain ⟨hprog, hcfg⟩ := h
  obtain ⟨kprog, kcfg⟩ := k
  exact ⟨kprog.trans hprog, kcfg.trans hcfg⟩

theorem dispatch_sameParameters {s t : State} (h : dispatch s = .next t) : SameParameters s t := by
  rcases dispatch_cases s with ⟨i, -, e⟩ | ⟨o, -, e⟩ | ⟨b, -, e⟩ | ⟨b, -, e⟩ <;> rw [e] at h
  · obtain ⟨-, -, -, -, -, -, -, hprog, hcfg⟩ := noInstructionTouchesTheLatches i s t h
    exact ⟨hprog, hcfg⟩
  · exact Host.Outcome.next.inj h ▸ ⟨rfl, rfl⟩
  · cases h
  · cases h

theorem doExecute_sameParameters {s t : State} (h : doExecute s = .next t) : SameParameters s t := by
  obtain ⟨u, hu, rfl⟩ := doExecute_next.mp h
  exact (dispatch_sameParameters hu).trans ⟨executeTail_prog u, executeTail_cfg u⟩

theorem hostMove_sameParameters {m : HostMove} {s t : State} (h : hostMove m s = .next t) : SameParameters s t := by
  cases m with
  | step =>
    rcases transition_cases h with ⟨-, rfl⟩ | ⟨-, rfl⟩ | ⟨-, he⟩ | ⟨-, rfl⟩
    · exact ⟨rfl, rfl⟩
    · exact ⟨rfl, rfl⟩
    · exact doExecute_sameParameters he
    · exact ⟨rfl, rfl⟩
  | runInstruction =>
    rcases runInstruction_cases h with ⟨-, he⟩ | ⟨-, rfl⟩
    · exact .trans ⟨fetchDecode_prog s, fetchDecode_cfg s⟩ (doExecute_sameParameters he)
    · exact ⟨rfl, rfl⟩
  | reset => exact Host.Outcome.next.inj h ▸ ⟨rfl, rfl⟩
  | writePin n v => exact Host.Outcome.next.inj h ▸ ⟨memWrite_prog _ v s, memWrite_cfg _ v s⟩

/-- Settles O15: every move keeps the program and the parameters of the start. -/
theorem programIsNeverWritten : Obligations.ProgramIsNeverWritten :=
  fun _ s _ h => hostRun_keeps (P := SameParameters s) (fun hs hm => hs.trans (hostMove_sameParameters hm))
    ⟨rfl, rfl⟩ h

end Sys2Proof.Machine

/-! Data memory: the byte operations and the bit operations in range and out of range. -/

namespace Sys2Proof.Machine

theorem memRead_snd_inRange {a : Nat} (s : State) (ha : a < dmemSize) : (memRead a s).2 = s := by
  rw [memRead_snd_eq, if_pos ha]

theorem memRead_outOfRange {a : Nat} (s : State) (ha : dmemSize ≤ a) : memRead a s = (0x00#8, s.markOor) :=
  if_neg (Nat.not_lt.mpr ha)

theorem memWrite_outOfRange {a : Nat} (v : Byte) (s : State) (ha : dmemSize ≤ a) : memWrite a v s = s.markOor :=
  if_neg (Nat.not_lt.mpr ha)

theorem memWrite_memOor_inRange {a : Nat} (v : Byte) (s : State) (ha : a < dmemSize) :
    (memWrite a v s).memOor = s.memOor := by
  simp [memWrite_memOor, Nat.not_le.mpr ha]

theorem byteAt_memWrite_self {a : Nat} (v : Byte) (s : State) (ha : a < dmemSize) :
    (memWrite a v s).byteAt a = v := by
  rw [byteAt_memWrite, if_pos ⟨rfl, ha⟩]

theorem memWrite_sameMemBut (a : Nat) (v : Byte) (s : State) : SameMemBut a s (memWrite a v s) := fun b hb => by
  rw [byteAt_memWrite, if_neg fun h => hb h.1]

/-- Settles O31: in range by the laws of a read after a write; out of range both only mark the indicator. -/
theorem dataMemoryReadsBackWrites : Obligations.DataMemoryReadsBackWrites := by
  refine ⟨fun s a v ha => ?_, fun s a v ha => ?_⟩
  · have ha : a < dmemSize := Nat.lt_succ_of_le ha
    exact ⟨byteAt_memWrite_self v s ha, memWrite_sameMemBut a v s, memWrite_memOor_inRange v s ha,
      memRead_snd_inRange s ha⟩
  · rw [memWrite_outOfRange v s ha, memRead_outOfRange s ha]
    exact ⟨rfl, State.byteAt_markOor s, rfl, rfl⟩

/-- Settles O32: in range a bit operation is one write, of the old byte with that bit changed. -/
theorem bitOperationsTouchOneBit : Obligations.BitOperationsTouchOneBit := by
  intro s a b ha _
  have ha : a < dmemSize := Nat.lt_succ_of_le ha
  rw [memSetBit_eq b s ha, memClearBit_eq b s ha]
  refine ⟨fun j hj => ?_, fun j hj => ?_, memWrite_sameMemBut a _ s, memWrite_sameMemBut a _ s,
    memWrite_memOor_inRange _ s ha, memWrite_memOor_inRange _ s ha⟩
  · rw [byteAt_memWrite_self _ s ha, getLsbD_setBit _ _ _ hj, Bool.or_comm]
  · rw [byteAt_memWrite_self _ s ha, getLsbD_clearBit _ _ _ hj, Bool.and_comm]

end Sys2Proof.Machine

/-! The stack: who touches it, and the list of its live bytes. -/

namespace Sys2Proof.Machine

/-! ## Which effects use the stack -/

/-- Whether an effect uses the stack. -/
def Effect.usesStack : Effect → Bool
  | .callTo _ | .ret | .reti | .pushByte _ | .popInto _ => true
  | _ => false

@[simp] theorem usesStack_effectOf (i : Instr) (s : State) : (effectOf i s).usesStack = usesStack i := by
  cases i <;> rfl

/-- The stack, its pointer and its two indicators are unchanged (20_memory R59). -/
def SameStackUnit (s t : State) : Prop := SameStack s t ∧ t.stkOvf = s.stkOvf ∧ t.stkUnf = s.stkUnf

theorem apply_sameStackUnit {e : Effect} (s : State) (h : e.usesStack = false) : SameStackUnit s (e.apply s) := by
  cases e with
  | callTo | ret | reti | pushByte | popInto => cases h
  | idle | setReg | alu | compare | setEnable => exact ⟨⟨rfl, fun _ => rfl⟩, rfl, rfl⟩
  | load | store | jumpIf =>
    exact ⟨⟨by simp [Effect.apply], State.stackByte_congr (by simp [Effect.apply])⟩, by simp [Effect.apply],
      by simp [Effect.apply]⟩

/-- Settles O22: the effects that use the stack are those of the five stack instructions. -/
theorem onlyStackInstructionsTouchTheStack : Obligations.OnlyStackInstructionsTouchTheStack := by
  intro i s t hi h
  rw [exec_next h]
  exact apply_sameStackUnit s (by simpa using hi)

/-! ## The pointer, the top and the live bytes -/

theorem pop_snd_sp {s : State} (h : s.sp.val ≠ stackCap) : (pop s).2.sp.val = s.sp.val + 1 := by
  rw [pop_nonempty h, State.setStack_sp]

theorem push_sp {v : Byte} {s : State} (h : s.sp.val ≠ 0) : (push v s).sp.val = s.sp.val - 1 := by
  rw [push_room v h, State.setStack_sp]

/-- The live bytes depend on nothing but the pointer and the cells from it on. -/
theorem liveStack_congr {s t : State} (hsp : t.sp = s.sp) (h : ∀ j, s.sp.val ≤ j → t.stackByte j = s.stackByte j) :
    liveStack t = liveStack s := by
  unfold liveStack State.depth
  rw [hsp]
  exact List.map_congr_left fun k _ => h _ (Nat.le_add_right _ k)

@[simp] theorem length_liveStack (s : State) : (liveStack s).length = s.depth := by
  simp [liveStack]

/-- Off the empty stack a pop removes and returns the head of the live bytes. -/
theorem liveStack_pop {s : State} (h : s.sp.val ≠ stackCap) : liveStack s = (pop s).1 :: liveStack (pop s).2 := by
  have hdepth : s.depth = (pop s).2.depth + 1 := by
    have := s.sp.isLt
    simp only [State.depth, stackCap, pop_snd_sp h] at h ⊢
    omega
  have hnext (k : Nat) : s.sp.val + (k + 1) = (pop s).2.sp.val + k := by rw [pop_snd_sp h]; omega
  have htop : (pop s).1 = s.stackByte s.sp.val := by rw [pop_nonempty h]
  simp [liveStack, hdepth, List.range_succ_eq_map, hnext, htop]

theorem push_room_sp_ne_stackCap (v : Byte) {s : State} (h : s.sp.val ≠ 0) : (push v s).sp.val ≠ stackCap := by
  have := s.sp.isLt
  rw [push_sp h, stackCap]
  omega

/-- A pop gives the byte pushed last. -/
theorem pop_push_fst (v : Byte) {s : State} (h : s.sp.val ≠ 0) : (pop (push v s)).1 = v := by
  rw [pop_nonempty (push_room_sp_ne_stackCap v h)]
  simp [push_room v h, State.stackByte]

/-- A pop after a push uncovers the live bytes before the push. -/
theorem liveStack_pop_push (v : Byte) {s : State} (h : s.sp.val ≠ 0) : liveStack (pop (push v s)).2 = liveStack s := by
  refine liveStack_congr (Fin.ext ?_) fun j hj => ?_
  · rw [pop_snd_sp (push_room_sp_ne_stackCap v h), push_sp h]
    omega
  · have hj : j ≠ s.sp.val - 1 := by omega
    simp [push_room v h, State.stackByte, cellAt_writeCell, hj]

/-- Off the full stack a push prepends to the live bytes. -/
theorem liveStack_push (v : Byte) {s : State} (h : s.sp.val ≠ 0) : liveStack (push v s) = v :: liveStack s := by
  rw [liveStack_pop (push_room_sp_ne_stackCap v h), pop_push_fst v h, liveStack_pop_push v h]

/-- The diagnostic top byte is the head of the live bytes (60_exceptions R252). -/
theorem peekTop_eq_head? (s : State) : s.peekTop = (liveStack s).head? := by
  unfold State.peekTop
  split
  · next h => simp [liveStack, State.depth, h]
  · next h => rw [liveStack_pop h, pop_nonempty h, List.head?_cons]

/-- Settles O44: push, pop and top of the live bytes are those of a list. -/
theorem stackRefinesAList : Obligations.StackRefinesAList :=
  ⟨fun _ v h => liveStack_push v h, fun _ h => liveStack_pop h, fun s => ⟨length_liveStack s, peekTop_eq_head? s⟩⟩

/-! ## Many pushes and pops -/

theorem SameIndicators.trans {s t u : State} (h : SameIndicators s t) (k : SameIndicators t u) :
    SameIndicators s u := by
  obtain ⟨hovf, hunf, hoor⟩ := h
  obtain ⟨kovf, kunf, koor⟩ := k
  exact ⟨kovf.trans hovf, kunf.trans hunf, koor.trans hoor⟩

theorem push_sameIndicators (v : Byte) {s : State} (h : s.sp.val ≠ 0) : SameIndicators s (push v s) := by
  simp [SameIndicators, push_stkOvf, h]

theorem pop_sameIndicators {s : State} (h : s.sp.val ≠ stackCap) : SameIndicators s (pop s).2 := by
  simp [SameIndicators, pop_snd_stkUnf, h]

/-- The state after pushes that fit: the pointer lower by their number, the bytes on top in reverse, no indicator raised. -/
theorem pushAll_spec {vs : List Byte} {s : State} (h : vs.length ≤ s.sp.val) :
    (pushAll vs s).sp.val + vs.length = s.sp.val ∧ liveStack (pushAll vs s) = vs.reverse ++ liveStack s ∧
      SameIndicators s (pushAll vs s) := by
  induction vs generalizing s with
  | nil => exact ⟨rfl, rfl, rfl, rfl, rfl⟩
  | cons v vs ih =>
    rw [List.length_cons] at h
    have hroom : s.sp.val ≠ 0 := by omega
    obtain ⟨hsp, hlive, hind⟩ := ih (s := push v s) (by rw [push_sp hroom]; omega)
    rw [push_sp hroom] at hsp
    refine ⟨?_, ?_, (push_sameIndicators v hroom).trans hind⟩
    · rw [pushAll, List.length_cons]
      omega
    · rw [pushAll, hlive, liveStack_push v hroom, List.reverse_cons, List.append_assoc, List.singleton_append]

/-- The pops of live bytes: the pointer higher by their number, the bytes taken from the top, no indicator raised. -/
theorem popMany_spec {n : Nat} {s : State} (h : s.sp.val + n ≤ stackCap) :
    (popMany n s).1 = (liveStack s).take n ∧ (popMany n s).2.sp.val = s.sp.val + n ∧
      liveStack (popMany n s).2 = (liveStack s).drop n ∧ SameIndicators s (popMany n s).2 := by
  induction n generalizing s with
  | zero => exact ⟨rfl, rfl, rfl, rfl, rfl, rfl⟩
  | succ n ih =>
    have hlive : s.sp.val ≠ stackCap := by omega
    obtain ⟨htake, hsp, hdrop, hind⟩ := ih (s := (pop s).2) (by rw [pop_snd_sp hlive]; omega)
    rw [pop_snd_sp hlive] at hsp
    refine ⟨?_, ?_, ?_, (pop_sameIndicators hlive).trans hind⟩
    · rw [popMany, htake, liveStack_pop hlive, List.take_succ_cons]
    · rw [popMany, hsp]
      omega
    · rw [popMany, hdrop, liveStack_pop hlive, List.drop_succ_cons]

/-- Settles O45: the pops take back the reversed bytes that the pushes put on the live ones. -/
theorem popsReverseThePushes : Obligations.PopsReverseThePushes := by
  intro vs s h
  obtain ⟨hsp, hlive, hind⟩ := pushAll_spec h
  have hfit : (pushAll vs s).sp.val + vs.length ≤ stackCap := hsp ▸ Nat.le_of_lt_succ s.sp.isLt
  obtain ⟨htake, hsp', hdrop, hind'⟩ := popMany_spec hfit
  rw [hlive] at htake hdrop
  exact ⟨htake.trans (List.take_left' List.length_reverse), Fin.ext (hsp'.trans hsp), hind.trans hind',
    hdrop.trans (List.drop_left' List.length_reverse)⟩

end Sys2Proof.Machine

/-! What the decoder can answer, said once (30_encoding R83, R87 to R89): the role each operand byte plays for a kind, the
bytes a role refuses and the bytes it ignores. -/

namespace Sys2Proof

/-- What an operand byte means for a kind (30_encoding R83). -/
inductive OperandRole where
  | unused | byte | reg | ptr
  deriving DecidableEq

/-- The role of `operand1`. -/
def Kind.role1 : Kind → OperandRole
  | .nop | .ret | .reti | .sei | .cli => .unused
  | .out | .sts | .jmp | .breq | .brne | .brge | .brgt | .brle | .brlt | .call => .byte
  | .ldi | .mov | .inp | .lds | .clr | .ori | .andi | .xori | .or | .and | .xor | .addi | .subi | .add | .sub | .inc
  | .dec | .cpi | .cp | .push | .pop | .lsl | .lsr | .ldio | .ld => .reg
  | .stio | .st => .ptr

/-- The role of `operand2`. -/
def Kind.role2 : Kind → OperandRole
  | .nop | .clr | .inc | .dec | .jmp | .breq | .brne | .brge | .brgt | .brle | .brlt | .call | .ret | .reti | .push
  | .pop | .lsl | .lsr | .sei | .cli => .unused
  | .ldi | .inp | .lds | .ori | .andi | .xori | .addi | .subi | .cpi => .byte
  | .mov | .out | .sts | .or | .and | .xor | .add | .sub | .cp | .stio | .st => .reg
  | .ldio | .ld => .ptr

/-- The rejection of an operand byte, if its role reserves the value (30_encoding R87, R88). -/
def OperandRole.refusal : OperandRole → Byte → Option Decoded
  | .unused, _ => none
  | .byte, _   => none
  | .reg, x    => if x.toNat < 32 then none else some (.reservedRegister x)
  | .ptr, x    => if x.toNat < 31 then none else some (.reservedPointer x)

/-- What the encoding keeps of an operand byte: 0 of an unused one (30_encoding R89). -/
def OperandRole.kept : OperandRole → Byte → Byte
  | .unused, _ => 0#8
  | .byte, x | .reg, x | .ptr, x => x

/-- The rejection of a kind's operand bytes; `operand1` is read first. -/
@[simp] def Kind.refusal (k : Kind) (a b : Byte) : Option Decoded :=
  (k.role1.refusal a).or (k.role2.refusal b)

/-! ## The roles -/

@[simp] theorem OperandRole.refusal_unused (x : Byte) : OperandRole.unused.refusal x = none := rfl

@[simp] theorem OperandRole.refusal_byte (x : Byte) : OperandRole.byte.refusal x = none := rfl

@[simp] theorem OperandRole.refusal_regByte (r : Reg) : OperandRole.reg.refusal (regByte r) = none := by
  simp [OperandRole.refusal, toNat_regByte]

@[simp] theorem OperandRole.refusal_ptrByte (p : PtrLow) : OperandRole.ptr.refusal (ptrByte p) = none := by
  simp [OperandRole.refusal, toNat_ptrByte]

theorem OperandRole.refusal_reg {x : Byte} (h : 32 ≤ x.toNat) :
    OperandRole.reg.refusal x = some (.reservedRegister x) :=
  if_neg (Nat.not_lt.mpr h)

theorem OperandRole.refusal_ptr {x : Byte} (h : 31 ≤ x.toNat) :
    OperandRole.ptr.refusal x = some (.reservedPointer x) :=
  if_neg (Nat.not_lt.mpr h)

/-- A role rejects a byte only as a reserved register or pointer field. -/
theorem OperandRole.refusal_cases {r : OperandRole} {x : Byte} {d : Decoded} (h : r.refusal x = some d) :
    d = .reservedRegister x ∨ d = .reservedPointer x := by
  cases r with
  | unused | byte => cases h
  | reg => exact .inl (Option.some.inj (Option.ite_none_left_eq_some.mp h).2).symm
  | ptr => exact .inr (Option.some.inj (Option.ite_none_left_eq_some.mp h).2).symm

theorem Kind.refusal_cases {k : Kind} {a b : Byte} {d : Decoded} (h : k.refusal a b = some d) :
    ∃ x, d = .reservedRegister x ∨ d = .reservedPointer x := by
  rcases Option.or_eq_some_iff.mp h with h | ⟨-, h⟩
  · exact ⟨a, OperandRole.refusal_cases h⟩
  · exact ⟨b, OperandRole.refusal_cases h⟩

theorem regByte_or_reserved (x : Byte) : (∃ r, x = regByte r) ∨ 32 ≤ x.toNat :=
  (onReg_cases x fun _ => .instr .nop).imp (fun ⟨r, hr, _⟩ => ⟨r, hr⟩) And.left

theorem ptrByte_or_reserved (x : Byte) : (∃ p, x = ptrByte p) ∨ 31 ≤ x.toNat :=
  (onPtr_cases x fun _ => .instr .nop).imp (fun ⟨p, hp, _⟩ => ⟨p, hp⟩) And.left

/-! ## The decoder -/

/-- The decoder either rejects an operand byte that its role reserves, or answers the instruction whose encoding keeps the
used bytes. -/
theorem build_cases (k : Kind) (a b : Byte) :
    k.refusal a b = some (build k a b) ∨
    k.refusal a b = none ∧ ∃ i, build k a b = .instr i ∧ i.fields = (k, k.role1.kept a, k.role2.kept b) := by
  cases k with
  | nop | ret | reti | sei | cli | jmp | breq | brne | brge | brgt | brle | brlt | call =>
    exact .inr ⟨rfl, _, rfl, rfl⟩
  | ldi | inp | lds | clr | ori | andi | xori | addi | subi | inc | dec | cpi | push | pop | lsl | lsr =>
    obtain ⟨d, rfl⟩ | ha := regByte_or_reserved a
    · simp [Kind.role1, Kind.role2, OperandRole.kept, build, Instr.fields]
    · simp [Kind.role1, Kind.role2, build, OperandRole.refusal_reg ha, onReg_reserved ha]
  | out | sts =>
    obtain ⟨r, rfl⟩ | hb := regByte_or_reserved b
    · simp [Kind.role1, Kind.role2, OperandRole.kept, build, Instr.fields]
    · simp [Kind.role1, Kind.role2, build, OperandRole.refusal_reg hb, onReg_reserved hb]
  | mov | or | and | xor | add | sub | cp =>
    obtain ⟨d, rfl⟩ | ha := regByte_or_reserved a
    · obtain ⟨r, rfl⟩ | hb := regByte_or_reserved b
      · simp [Kind.role1, Kind.role2, OperandRole.kept, build, Instr.fields]
      · simp [Kind.role1, Kind.role2, build, OperandRole.refusal_reg hb, onReg_reserved hb]
    · simp [Kind.role1, Kind.role2, build, OperandRole.refusal_reg ha, onReg_reserved ha]
  | stio | st =>
    obtain ⟨p, rfl⟩ | ha := ptrByte_or_reserved a
    · obtain ⟨r, rfl⟩ | hb := regByte_or_reserved b
      · simp [Kind.role1, Kind.role2, OperandRole.kept, build, Instr.fields]
      · simp [Kind.role1, Kind.role2, build, OperandRole.refusal_reg hb, onReg_reserved hb]
    · simp [Kind.role1, Kind.role2, build, OperandRole.refusal_ptr ha, onPtr_reserved ha]
  | ldio | ld =>
    obtain ⟨d, rfl⟩ | ha := regByte_or_reserved a
    · obtain ⟨p, rfl⟩ | hb := ptrByte_or_reserved b
      · simp [Kind.role1, Kind.role2, OperandRole.kept, build, Instr.fields]
      · simp [Kind.role1, Kind.role2, build, OperandRole.refusal_ptr hb, onPtr_reserved hb]
    · simp [Kind.role1, Kind.role2, build, OperandRole.refusal_reg ha, onReg_reserved ha]

/-- A rejection by role is the decoder's answer. -/
theorem build_of_refusal {k : Kind} {a b : Byte} {d : Decoded} (h : k.refusal a b = some d) : build k a b = d := by
  rcases build_cases k a b with hr | ⟨hn, -⟩
  · exact Option.some.inj (hr.symm.trans h)
  · exact nomatch hn.symm.trans h

theorem fields_of_build {k : Kind} {a b : Byte} {i : Instr} (h : build k a b = .instr i) :
    i.fields = (k, k.role1.kept a, k.role2.kept b) := by
  rcases build_cases k a b with hr | ⟨-, j, hj, hf⟩
  · obtain ⟨x, hx | hx⟩ := Kind.refusal_cases hr <;> exact nomatch h.symm.trans hx
  · exact Decoded.instr.inj (h.symm.trans hj) ▸ hf

theorem build_ne_unrecognized (k : Kind) (a b o : Byte) : build k a b ≠ .unrecognized o := by
  intro h
  rcases build_cases k a b with hr | ⟨-, j, hj, -⟩
  · obtain ⟨x, hx | hx⟩ := Kind.refusal_cases hr <;> exact nomatch h.symm.trans hx
  · exact nomatch h.symm.trans hj

/-- The opcode byte selects the kind before any operand byte is looked at (30_encoding R85, R86). -/
theorem decodeFields_cases (o a b : Byte) :
    (∃ k, o = opcodeOf k ∧ decodeFields o a b = build k a b) ∨
    (0x2A ≤ o.toNat ∧ decodeFields o a b = .unrecognized o) := by
  unfold decodeFields
  cases hk : kindOf o with
  | some k => exact .inl ⟨k, kindOf_eq_some hk, rfl⟩
  | none   => exact .inr ⟨kindOf_eq_none.mp hk, rfl⟩

/-- The word form of `decodeFields_opcodeOf`. -/
theorem decode_opcodeOf {w : Word24} {k : Kind} (h : wordOpcode w = opcodeOf k) :
    decode w = build k (wordOperand1 w) (wordOperand2 w) := by
  rw [decode, h, decodeFields_opcodeOf]

/-- A word that decodes to an instruction has its opcode and, of its operand bytes, the used ones. -/
theorem fields_of_decode {w : Word24} {i : Instr} (h : decode w = .instr i) :
    ∃ k, wordOpcode w = opcodeOf k ∧
      i.fields = (k, k.role1.kept (wordOperand1 w), k.role2.kept (wordOperand2 w)) := by
  rcases decodeFields_cases (wordOpcode w) (wordOperand1 w) (wordOperand2 w) with ⟨k, ho, he⟩ | ⟨-, he⟩
  · exact ⟨k, ho, fields_of_build (he.symm.trans h)⟩
  · exact nomatch he.symm.trans h

theorem decode_unrecognized {w : Word24} {o : Byte} (h : decode w = .unrecognized o) : 0x2A ≤ (wordOpcode w).toNat := by
  rcases decodeFields_cases (wordOpcode w) (wordOperand1 w) (wordOperand2 w) with ⟨k, -, he⟩ | ⟨hlt, -⟩
  · exact absurd (he.symm.trans h) (build_ne_unrecognized k _ _ o)
  · exact hlt

theorem decodeFields_of_le {o : Byte} (h : 0x2A ≤ o.toNat) (a b : Byte) : decodeFields o a b = .unrecognized o := by
  simp [decodeFields, kindOf_eq_none.mpr h]

theorem build_unused_operand1 {k : Kind} (h : k.role1 = .unused) (a a' b : Byte) : build k a b = build k a' b := by
  cases k with
  | nop | ret | reti | sei | cli => rfl
  | _ => cases h

theorem build_unused_operand2 {k : Kind} (h : k.role2 = .unused) (a b b' : Byte) : build k a b = build k a b' := by
  cases k with
  | nop | clr | inc | dec | jmp | breq | brne | brge | brgt | brle | brlt | call | ret | reti | push | pop | lsl | lsr
  | sei | cli => rfl
  | _ => cases h

/-- An instruction's own operand bytes are read back as the instruction. -/
theorem build_fields (i : Instr) : build i.fields.1 i.fields.2.1 i.fields.2.2 = .instr i := by
  open Laws.OperandRoles in
  cases i
  exacts [nop, ldi _ _, mov _ _, out _ _, inp _ _, sts _ _, lds _ _, clr _, ori _ _, andi _ _, xori _ _, or _ _, and _ _,
    xor _ _, addi _ _, subi _ _, add _ _, sub _ _, inc _, dec _, cpi _ _, cp _ _, jmp _, breq _, brne _, brge _, brgt _,
    brle _, brlt _, call _, ret, reti, push _, pop _, lsl _, lsr _, sei, cli, stio _ _, ldio _ _, st _ _, ld _ _]

theorem decode_encode (i : Instr) : decode (encode i) = .instr i := by
  rw [encode, decode_packWord, decodeFields_opcodeOf, build_fields]

theorem opcodeOf_injective {k l : Kind} (h : opcodeOf k = opcodeOf l) : k = l :=
  Option.some.inj (kindOf_opcodeOf k ▸ h ▸ kindOf_opcodeOf l)

/-- An encoding has 0 in its unused bytes (30_encoding R89). -/
theorem fields_kept (i : Instr) :
    i.fields = (i.kind, i.kind.role1.kept i.fields.2.1, i.kind.role2.kept i.fields.2.2) :=
  fields_of_build (build_fields i)

/-- The encoding keeps an operand byte, or its role is unused. -/
theorem kept_or_unused (r : OperandRole) (x : Byte) : x = r.kept x ∨ r = .unused := by
  cases r with
  | unused => exact .inr rfl
  | byte | reg | ptr => exact .inl rfl

/-- Settles O56: the operand roles read an instruction's own bytes back, and of a word they drop only unused bytes. -/
theorem decodeOfEncodeIsTheInstruction : Obligations.DecodeOfEncodeIsTheInstruction := by
  refine ⟨decode_encode, fun w i h => ?_⟩
  obtain ⟨k, ho, hf⟩ := fields_of_decode h
  have hb : build k (wordOperand1 w) (wordOperand2 w) = .instr i := by rwa [decode_opcodeOf ho] at h
  have henc : encode i = packWord (wordOpcode w) (k.role1.kept (wordOperand1 w)) (k.role2.kept (wordOperand2 w)) := by
    rw [encode, hf, ho]
  rw [henc, wordOpcode_packWord, wordOperand1_packWord, wordOperand2_packWord]
  refine ⟨rfl, (kept_or_unused k.role1 _).imp_right fun hu b => ?_,
    (kept_or_unused k.role2 _).imp_right fun hu b => ?_⟩
  · rw [decode_packWord, ho, decodeFields_opcodeOf, build_unused_operand1 hu b (wordOperand1 w), hb]
  · rw [decode_packWord, ho, decodeFields_opcodeOf, build_unused_operand2 hu _ b (wordOperand2 w), hb]

/-- Settles O57: a recognized opcode is a row of the table, and no kind's roles answer an unrecognized opcode. -/
theorem opcodeByteAloneSelects : Obligations.OpcodeByteAloneSelects := by
  refine ⟨fun w i h => ?_, fun k l => opcodeOf_injective, fun o => ⟨fun h => ?_, ?_⟩, fun w => ⟨?_, fun h => ?_⟩⟩
  · obtain ⟨k, ho, hf⟩ := fields_of_decode h
    rw [ho, Instr.kind, hf]
  · obtain ⟨k, hk⟩ := kindOf_of_lt (Nat.lt_succ_of_le h)
    exact ⟨k, (kindOf_eq_some hk).symm⟩
  · rintro ⟨k, rfl⟩
    exact Nat.le_of_lt_succ (opcodeOf_lt k)
  · rintro ⟨o, h⟩
    exact decode_unrecognized h
  · exact ⟨_, decodeFields_of_le h _ _⟩

/-- Every opcode of a list is one of a kind with `P` if the opcode map says so, entry by entry. -/
theorem exists_kind_of_mem {os : List Byte} {P : Kind → Prop} [DecidablePred P]
    (hall : ∀ o ∈ os, (kindOf o).any (fun k => decide (P k)) = true) {o : Byte} (ho : o ∈ os) :
    ∃ k, o = opcodeOf k ∧ P k := by
  have h := hall o ho
  cases hk : kindOf o with
  | none   => simp [hk] at h
  | some k => exact ⟨k, kindOf_eq_some hk, by simpa [hk] using h⟩

/-- The kind of an encoded instruction whose opcode is in such a list. -/
theorem kind_of_mem {os : List Byte} {P : Kind → Prop} [DecidablePred P]
    (hall : ∀ o ∈ os, (kindOf o).any (fun k => decide (P k)) = true) {i : Instr} (hi : wordOpcode (encode i) ∈ os) :
    P i.kind := by
  obtain ⟨k, hk, hp⟩ := exists_kind_of_mem hall hi
  rw [encode, wordOpcode_packWord] at hk
  have he : i.kind = k := opcodeOf_injective hk
  exact he ▸ hp

theorem operand1_encode_of_unused {i : Instr} (h : i.kind.role1 = .unused) : wordOperand1 (encode i) = 0x00#8 := by
  rw [encode, wordOperand1_packWord, fields_kept, h, OperandRole.kept]

theorem operand2_encode_of_unused {i : Instr} (h : i.kind.role2 = .unused) : wordOperand2 (encode i) = 0x00#8 := by
  rw [encode, wordOperand2_packWord, fields_kept, h, OperandRole.kept]

/-- Settles O58: the listed opcodes are of kinds whose operand role is `unused`. -/
theorem unusedOperandBytesAreIgnored : Obligations.UnusedOperandBytesAreIgnored := by
  refine ⟨fun o ho a b b' => ?_, fun o ho a b a' b' => ?_, fun i hi => ?_, fun i hi => ?_⟩
  · obtain ⟨k, rfl, h2⟩ := exists_kind_of_mem (P := fun k => k.role2 = .unused) (by decide) ho
    rw [decode_packWord, decode_packWord, decodeFields_opcodeOf, decodeFields_opcodeOf, build_unused_operand2 h2 a b b']
  · obtain ⟨k, rfl, h1, h2⟩ :=
      exists_kind_of_mem (P := fun k => k.role1 = .unused ∧ k.role2 = .unused) (by decide) ho
    rw [decode_packWord, decode_packWord, decodeFields_opcodeOf, decodeFields_opcodeOf, build_unused_operand1 h1 a a',
      build_unused_operand2 h2 a' b b']
  · exact operand2_encode_of_unused (kind_of_mem (P := fun k => k.role2 = .unused) (by decide) hi)
  · exact operand1_encode_of_unused (kind_of_mem (P := fun k => k.role1 = .unused) (by decide) hi)

/-- Settles O55: the words of the spec's table, computed. -/
theorem sampleWordsDecode : Obligations.SampleWordsDecode := by
  unfold Obligations.SampleWordsDecode
  decide

end Sys2Proof

/-! What a step does with a word that is no instruction: the full reset and the refusals (30_encoding R86 to R88). -/

namespace Sys2Proof.Machine

/-! ## The full reset -/

theorem pinChanged_engineReset (s : State) (n : Source) : pinChanged (engineReset s) n = false := by
  simp [pinChanged]

theorem setLatch_engineReset (s : State) (n : Source) : (engineReset s).setLatch n 0#8 = engineReset s :=
  congrArg (fun p => { engineReset s with prev := p }) Vector.set_replicate_self

/-- The reset state has no change to latch, and its samples are already taken. -/
theorem monitor_engineReset (n : Source) (s : State) : monitor n (engineReset s) = engineReset s := by
  rw [monitor, pinChanged_engineReset, engineReset_byteAt]
  exact setLatch_engineReset s n

/-- The tail of EXECUTE leaves the reset state as it is (40_control_unit R105). -/
theorem executeTail_engineReset (s : State) : executeTail (engineReset s) = engineReset s := by
  have hcheck : checkInterrupt ((engineReset s).setPhase .fetch) = engineReset s := checkInterrupt_disabled rfl
  simp only [executeTail, hcheck, monitors, monitor_engineReset]

theorem doExecute_unrecognized {s : State} (h : 0x2A ≤ s.opc.toNat) : doExecute s = .next (engineReset s) := by
  simp only [doExecute, dispatch, decodeFields_of_le h, andThen, executeTail_engineReset]

/-- Settles O2: an unrecognized opcode dispatches to the full reset, which the tail leaves alone. -/
theorem unrecognizedOpcodeForcesFullReset : Obligations.UnrecognizedOpcodeForcesFullReset := by
  refine ⟨fun s hp h => ?_, fun s hp h => ?_⟩
  · simp only [transition, hp, doExecute_unrecognized h]
  · rw [step, runInstruction_fetch hp, doExecute_unrecognized (s := fetchDecode s) h]
    exact congrArg Host.Outcome.next (engineReset_congr rfl rfl)

/-! ## The refusals -/

theorem step_reservedRegister {s : State} {x : Byte} (hp : s.phase = .fetch)
    (hd : decode (progRead s s.pc) = .reservedRegister x) : step s = .refused (.reservedRegister x) := by
  simp only [step, runInstruction_fetch hp, doExecute, dispatch, decodeFields_fetchDecode, hd, andThen]

theorem step_reservedPointer {s : State} {x : Byte} (hp : s.phase = .fetch)
    (hd : decode (progRead s s.pc) = .reservedPointer x) : step s = .refused (.reservedPointer x) := by
  simp only [step, runInstruction_fetch hp, doExecute, dispatch, decodeFields_fetchDecode, hd, andThen]

/-- A refused meaning is a refused step: the tail of EXECUTE does not run. -/
theorem step_exec_refused {s : State} {i : Instr} {r : Refusal} (hp : s.phase = .fetch)
    (hd : decode (progRead s s.pc) = .instr i) (he : exec i (fetchDecode s) = .refused r) : step s = .refused r := by
  rw [step, runInstruction_instr hp hd, he, andThen]

/-- Settles O59: a register role reserves 32 and above; the other byte can only be refused first. -/
theorem reservedRegisterFieldsAreRefused : Obligations.ReservedRegisterFieldsAreRefused := by
  refine ⟨fun s hp ho h => ?_, fun s hp ho h => ?_⟩
  · obtain ⟨k, hk, h1⟩ := exists_kind_of_mem (P := fun k => k.role1 = .reg) (by decide) ho
    refine step_reservedRegister hp ((decode_opcodeOf hk).trans (build_of_refusal ?_))
    rw [Kind.refusal, h1, OperandRole.refusal_reg h, Option.some_or]
  · obtain ⟨k, hk, h2⟩ := exists_kind_of_mem (P := fun k => k.role2 = .reg) (by decide) ho
    obtain ⟨d, hd⟩ : ∃ d, k.refusal (wordOperand1 (progRead s s.pc)) (wordOperand2 (progRead s s.pc)) = some d :=
      Option.isSome_iff_exists.mp (by simp [h2, OperandRole.refusal_reg h])
    have hdec := (decode_opcodeOf hk).trans (build_of_refusal hd)
    obtain ⟨x, rfl | rfl⟩ := Kind.refusal_cases hd
    · exact ⟨x, .inl (step_reservedRegister hp hdec)⟩
    · exact ⟨x, .inr (step_reservedPointer hp hdec)⟩

theorem designated_eq_false {cfg : Config} {p : PtrLow} (ha : (ptrByte p).toNat ≠ cfg.ptrALo.val)
    (hb : (ptrByte p).toNat ≠ cfg.ptrBLo.val) : cfg.designated p = false := by
  rw [toNat_ptrByte] at ha hb
  simp [Config.designated, Fin.ext_iff, ha, hb]

/-- A word whose byte `x` is read as a pointer and names no designated pair: the decoder refuses 31 and above, the
instruction's meaning the rest. -/
theorem step_onPtr_undesignated {s : State} {x : Byte} {f : PtrLow → Instr} (hp : s.phase = .fetch)
    (hd : decode (progRead s s.pc) = onPtr x fun p => .instr (f p))
    (hf : ∀ p t, ∃ op, exec (f p) t = onPair p t op)
    (ha : x.toNat ≠ s.cfg.ptrALo.val) (hb : x.toNat ≠ s.cfg.ptrBLo.val) : step s = .refused (.reservedPointer x) := by
  rcases onPtr_cases x fun p => .instr (f p) with ⟨p, rfl, e⟩ | ⟨-, e⟩
  · obtain ⟨op, hop⟩ := hf p (fetchDecode s)
    have hu : (fetchDecode s).cfg.designated p = false := designated_eq_false ha hb
    exact step_exec_refused hp (hd.trans e) (hop.trans (onPair_reserved hu op))
  · exact step_reservedPointer hp (hd.trans e)

/-- Settles O60: STIO and ST read the pointer in `operand1`, LDIO and LD in `operand2`, beside an admitted register. -/
theorem reservedPointerFieldsAreRefused : Obligations.ReservedPointerFieldsAreRefused := by
  refine ⟨fun s hp ho hr ha hb => ?_, fun s hp ho hr ha hb => ?_⟩
  · obtain ⟨r, e⟩ := (regByte_or_reserved _).resolve_right (Nat.not_le.mpr hr)
    rcases ho with ho | ho
    · exact step_onPtr_undesignated (f := fun p => .stio p r) hp
        (by simp [decode_opcodeOf (k := .stio) ho, e, build]) (fun p t => ⟨_, rfl⟩) ha hb
    · exact step_onPtr_undesignated (f := fun p => .st p r) hp
        (by simp [decode_opcodeOf (k := .st) ho, e, build]) (fun p t => ⟨_, rfl⟩) ha hb
  · obtain ⟨d, e⟩ := (regByte_or_reserved _).resolve_right (Nat.not_le.mpr hr)
    rcases ho with ho | ho
    · exact step_onPtr_undesignated (f := .ldio d) hp
        (by simp [decode_opcodeOf (k := .ldio) ho, e, build]) (fun p t => ⟨_, rfl⟩) ha hb
    · exact step_onPtr_undesignated (f := .ld d) hp
        (by simp [decode_opcodeOf (k := .ld) ho, e, build]) (fun p t => ⟨_, rfl⟩) ha hb

end Sys2Proof.Machine

/-! The control unit: its three transitions one by one, the whole step made of them, and what a step needs to complete. -/

namespace Sys2Proof.Machine

/-! ## One transition for each control state -/

theorem transition_fetch {s : State} (hp : s.phase = .fetch) : transition s = .next (doFetch s) := by
  simp only [transition, hp]

theorem transition_decode {s : State} (hp : s.phase = .decode) : transition s = .next (doDecode s) := by
  simp only [transition, hp]

theorem transition_execute {s : State} (hp : s.phase = .execute) : transition s = doExecute s := by
  simp only [transition, hp]

theorem transition_invalid {s : State} (hp : s.phase = .invalid) : transition s = .next (engineReset s) := by
  simp only [transition, hp]

theorem runInstruction_invalid {s : State} (hp : s.phase = .invalid) : runInstruction s = .next (engineReset s) := by
  simp only [runInstruction, hp]

theorem runInstruction_midInstruction {s : State} (hp : s.phase = .decode ∨ s.phase = .execute) :
    runInstruction s = .refused .midInstruction := by
  rcases hp with hp | hp <;> simp only [runInstruction, hp]

/-- Settles O3: both step relations answer the full reset there. -/
theorem invalidControlStateForcesFullReset : Obligations.InvalidControlStateForcesFullReset :=
  fun _ hp => ⟨transition_invalid hp, runInstruction_invalid hp⟩

/-- Settles O6: the transition is `doFetch`; the increment is that of an 8-bit counter. -/
theorem fetchReadsRecordsAndIncrements : Obligations.FetchReadsRecordsAndIncrements := by
  intro s hp
  exact ⟨doFetch s, transition_fetch hp, rfl, rfl, BitVec.toNat_add s.pc 1#8, rfl, rfl, rfl, rfl, fun _ => rfl, rfl,
    State.byteAt_congr rfl, ⟨rfl, fun _ => rfl⟩, ⟨rfl, rfl, rfl⟩, rfl, rfl, rfl⟩

/-! ## The three bytes of a word as numbers -/

theorem toNat_wordOpcode (w : Word24) : (wordOpcode w).toNat = w.toNat / 65536 := by
  have := w.isLt
  rw [wordOpcode, BitVec.extractLsb'_toNat, Nat.shiftRight_eq_div_pow]
  omega

theorem toNat_wordOperand1 (w : Word24) : (wordOperand1 w).toNat = w.toNat / 256 % 256 := by
  rw [wordOperand1, BitVec.extractLsb'_toNat, Nat.shiftRight_eq_div_pow]

theorem toNat_wordOperand2 (w : Word24) : (wordOperand2 w).toNat = w.toNat % 256 := by
  rw [wordOperand2, BitVec.extractLsb'_toNat, Nat.shiftRight_zero]

theorem toNat_word (w : Word24) :
    w.toNat = (wordOpcode w).toNat * 65536 + (wordOperand1 w).toNat * 256 + (wordOperand2 w).toNat := by
  rw [toNat_wordOpcode, toNat_wordOperand1, toNat_wordOperand2]
  omega

/-- Settles O7: the transition is `doDecode`; a packed word has the packed bytes as its three fields. -/
theorem decodeSplitsTheWord : Obligations.DecodeSplitsTheWord := by
  refine ⟨fun s hp => ?_, fun o a b => by simpa using toNat_word (packWord o a b)⟩
  exact ⟨doDecode s, transition_decode hp, toNat_wordOpcode s.ir, toNat_wordOperand1 s.ir, toNat_wordOperand2 s.ir, rfl,
    rfl, rfl, rfl, fun _ => rfl, rfl, State.byteAt_congr rfl, ⟨rfl, fun _ => rfl⟩, ⟨rfl, rfl, rfl⟩, rfl, rfl, rfl⟩

/-! ## The step -/

theorem doExecute_instr {s : State} {i : Instr} (hd : decodeFields s.opc s.op1 s.op2 = .instr i) :
    doExecute s = andThen (exec i s) fun t => .next (executeTail t) := by
  simp only [doExecute, dispatch, hd]

/-- Settles O8: the state that is dispatched is `fetchDecode s`. -/
theorem stepRunsTheDecodedInstruction : Obligations.StepRunsTheDecodedInstruction := by
  refine ⟨fun s i hp hd => ?_, fun s i hp hd => (transition_execute hp).trans (doExecute_instr hd)⟩
  exact ⟨fetchDecode s, rfl, rfl, rfl, rfl, rfl, rfl, rfl, rfl, rfl, rfl, rfl, rfl, ⟨rfl, rfl, rfl⟩, rfl, rfl, rfl,
    runInstruction_instr hp hd⟩

/-- Settles O9: FETCH and DECODE complete, into DECODE and EXECUTE. -/
theorem runInstructionIsThreeTransitions : Obligations.RunInstructionIsThreeTransitions := by
  refine ⟨fun s hp => ?_, fun s => runInstruction_midInstruction, fun s => rfl⟩
  have hfetch : (doFetch s).phase = .decode := rfl
  have hdecode : (doDecode (doFetch s)).phase = .execute := rfl
  calc step s = transition (doDecode (doFetch s)) := (runInstruction_fetch hp).trans (transition_execute hdecode).symm
    _ = andThen (transition (doFetch s)) transition := by rw [transition_decode hfetch, andThen]
    _ = andThen (transition s) fun t => andThen (transition t) transition := by rw [transition_fetch hp, andThen]

/-! ## What completes -/

/-- An instruction without a reserved pointer completes (30_encoding R88). -/
theorem exec_of_wellFormed {i : Instr} {s : State} (h : i.wellFormed s.cfg = true) :
    exec i s = .next ((effectOf i s).apply s) := by
  rw [exec_eq_effect]
  unfold guarded
  split
  iterate 4 exact onPair_designated h _
  rfl

/-- A dispatch of an admitted encoding completes (40_control_unit R104). -/
theorem dispatch_of_admitted {s : State} (h : wordAdmitted s.cfg (packWord s.opc s.op1 s.op2) = true) :
    ∃ t, dispatch s = .next t := by
  rw [wordAdmitted, decode_packWord] at h
  rcases dispatch_cases s with ⟨i, hd, e⟩ | ⟨o, -, e⟩ | ⟨b, hd, -⟩ | ⟨b, hd, -⟩
  · rw [hd] at h
    exact ⟨_, e.trans (exec_of_wellFormed h)⟩
  · exact ⟨_, e⟩
  · simp [hd] at h
  · simp [hd] at h

theorem doExecute_of_admitted {s : State} (h : wordAdmitted s.cfg (packWord s.opc s.op1 s.op2) = true) :
    ∃ t, doExecute s = .next t := by
  obtain ⟨t, ht⟩ := dispatch_of_admitted h
  exact ⟨_, doExecute_next.mpr ⟨t, ht, rfl⟩⟩

theorem doExecute_phase {s t : State} (h : doExecute s = .next t) : t.phase = .fetch := by
  obtain ⟨u, -, rfl⟩ := doExecute_next.mp h
  exact executeTail_phase u

/-- Settles O10: EXECUTE ends in the tail, which goes to FETCH, and completes on an admitted encoding; there is no fault to
answer (60_exceptions R230). -/
theorem transitionsCycleThroughThreeStates : Obligations.TransitionsCycleThroughThreeStates := by
  refine ⟨fun s hp => ⟨_, transition_fetch hp, rfl⟩, fun s hp => ⟨_, transition_decode hp, rfl⟩, fun s t hp ht => ?_,
    fun s hp h => ?_, fun s e => nomatch e⟩
  · exact doExecute_phase (transition_execute hp ▸ ht)
  · rw [transition_execute hp]
    exact doExecute_of_admitted h

/-- A program is admitted for what its cells and the parameters are. -/
theorem ProgramAdmitted.of_sameParameters {s t : State} (h : ProgramAdmitted s) (hst : SameParameters s t) :
    ProgramAdmitted t := by
  obtain ⟨hprog, hcfg⟩ := hst
  intro a
  rw [progRead, hprog, hcfg]
  exact h a

/-- Settles O11: the fetched word is admitted, and a step keeps the program and the parameters. -/
theorem wellFormedProgramNeverStops : Obligations.WellFormedProgramNeverStops := by
  intro s hp h
  have hword : packWord (fetchDecode s).opc (fetchDecode s).op1 (fetchDecode s).op2 = progRead s s.pc :=
    packWord_fields (progRead s s.pc)
  obtain ⟨t, ht⟩ := doExecute_of_admitted (s := fetchDecode s) (hword ▸ h s.pc)
  have hsame : SameParameters s t := doExecute_sameParameters (s := fetchDecode s) ht
  obtain ⟨hprog, hcfg⟩ := hsame
  exact ⟨t, (runInstruction_fetch hp).trans ht, doExecute_phase ht, hprog, hcfg, h.of_sameParameters ⟨hprog, hcfg⟩⟩

/-- A step at a decoded instruction that completes goes on with the tail of EXECUTE. -/
theorem step_of_exec_next {s t : State} {i : Instr} (hp : s.phase = .fetch) (hd : decode (progRead s s.pc) = .instr i)
    (he : exec i (fetchDecode s) = .next t) : step s = .next (executeTail t) := by
  rw [step, runInstruction_instr hp hd, he, andThen]

/-- With I clear the tail is left with the monitors (60_exceptions R240). -/
theorem executeTail_disabled {t : State} (h : t.sr.i = false) : executeTail t = monitors (t.setPhase .fetch) :=
  congrArg monitors (checkInterrupt_disabled h)

theorem progRead_congr {s t : State} (h : t.prog = s.prog) (a : Byte) : progRead t a = progRead s a := by
  simp only [progRead, h]

/-- Settles O54: the jump puts the incremented `pc` back; with I clear the tail is the three monitors, which write `PCIFR`
alone. -/
theorem selfJumpStaysWhileInterruptsAreOff : Obligations.SelfJumpStaysWhileInterruptsAreOff := by
  rintro s ⟨hp, hd⟩ hi
  obtain ⟨t, ht⟩ : ∃ t, t = monitors (((fetchDecode s).setPc s.pc).setPhase .fetch) := ⟨_, rfl⟩
  have hstep : step s = .next t := by
    rw [step_of_exec_next hp hd rfl, executeTail_disabled (t := (fetchDecode s).setPc s.pc) hi, ht]
  have hpc : t.pc = s.pc := ht ▸ monitors_pc _
  have hword : progRead t t.pc = progRead s s.pc := by rw [hpc, progRead_congr (s := s) (ht ▸ monitors_prog _)]
  refine ⟨t, hstep, ⟨ht ▸ monitors_phase _, hword ▸ hpc ▸ hd⟩, hpc, State.x_congr (ht ▸ monitors_regs _),
    ht ▸ monitors_sr _, ⟨ht ▸ monitors_sp _, State.stackByte_congr (ht ▸ monitors_stack _)⟩,
    ⟨ht ▸ monitors_stkOvf _, ht ▸ monitors_stkUnf _, ht ▸ monitors_memOor _⟩, fun a ha => ?_⟩
  rw [ht, byteAt_monitors_ne _ ha]
  simp

end Sys2Proof.Machine

/-! The pending flags and the pin samples: what the monitors and taking an interrupt do to each source's own. -/

namespace Sys2Proof.Machine

theorem pinAddr_ne_pcifrAddr (n : Source) : pinAddr n ≠ pcifrAddr := by
  simp only [pinAddr, pcifrAddr]
  omega

theorem pcmskAddr_ne_pcifrAddr (n : Source) : pcmskAddr n ≠ pcifrAddr := by
  simp only [pcmskAddr, pcifrAddr]
  omega

theorem pcifBit_lt (n : Source) : pcifBit n < 8 := by
  simp only [pcifBit]
  omega

theorem pcifBit_inj {n m : Source} : pcifBit m = pcifBit n ↔ m = n := Fin.ext_iff.symm

/-! ## One monitor -/

/-- A monitor raises its own source's flag on a change and leaves the others (60_exceptions R236). -/
theorem pending_monitor (n m : Source) (s : State) :
    pending (monitor n s) m = (pending s m || (decide (m = n) && pinChanged s n)) := by
  unfold pending
  rw [byteAt_monitor]
  cases pinChanged s n with
  | true  => simp only [and_self, ↓reduceIte, getLsbD_setBit _ _ _ (pcifBit_lt m), pcifBit_inj, Bool.and_true]
  | false => simp

/-- Whether a pin changed is read in the sample, the pin byte and the mask byte. -/
theorem pinChanged_congr {s t : State} {n : Source} (hl : t.latch n = s.latch n)
    (hb : ∀ a, a ≠ pcifrAddr → t.byteAt a = s.byteAt a) : pinChanged t n = pinChanged s n := by
  simp only [pinChanged, hl, hb _ (pinAddr_ne_pcifrAddr n), hb _ (pcmskAddr_ne_pcifrAddr n)]

theorem byteAt_monitor_ne (n : Source) (s : State) {a : Nat} (h : a ≠ pcifrAddr) :
    (monitor n s).byteAt a = s.byteAt a := by
  simp [byteAt_monitor, h]

theorem pinChanged_monitor_ne {n m : Source} (s : State) (h : m ≠ n) : pinChanged (monitor n s) m = pinChanged s m :=
  pinChanged_congr (by rw [latch_monitor, if_neg h]) fun _ => byteAt_monitor_ne n s

/-! ## The three monitors -/

/-- Each source's flag is raised on its own change (60_exceptions R236; 40_control_unit R103). -/
theorem pending_monitors (s : State) (m : Source) : pending (monitors s) m = (pending s m || pinChanged s m) := by
  have h01 : pinChanged (monitor 0 s) 1 = pinChanged s 1 := pinChanged_monitor_ne s (by decide)
  have h012 : pinChanged (monitor 1 (monitor 0 s)) 2 = pinChanged s 2 := by
    rw [pinChanged_monitor_ne _ (by decide), pinChanged_monitor_ne s (by decide)]
  simp only [monitors, pending_monitor, h01, h012]
  fin_cases m <;> simp

theorem latch_monitors (s : State) (m : Source) : (monitors s).latch m = s.byteAt (pinAddr m) := by
  simp only [monitors, latch_monitor, byteAt_monitor_ne _ _ (pinAddr_ne_pcifrAddr _)]
  fin_cases m <;> simp

/-- Once the samples are taken no pin has changed. -/
theorem pinChanged_monitors (s : State) (m : Source) : pinChanged (monitors s) m = false := by
  simp [pinChanged, latch_monitors, byteAt_monitors_ne s (pinAddr_ne_pcifrAddr m)]

/-! ## Taking an interrupt -/

theorem byteAt_service (n : Source) (s : State) (a : Nat) :
    (service n s).byteAt a = if a = pcifrAddr then s.byteAt pcifrAddr &&& ~~~(1#8 <<< pcifBit n) else s.byteAt a := by
  simp [service, byteAt_memClearBit _ _ _ pcifr_inRange]

/-- Taking an interrupt clears its own source's flag alone (60_exceptions R241). -/
theorem pending_service (n m : Source) (s : State) : pending (service n s) m = (pending s m && decide (m ≠ n)) := by
  unfold pending
  simp only [byteAt_service, ↓reduceIte, getLsbD_clearBit _ _ _ (pcifBit_lt m), ne_eq, pcifBit_inj]

theorem pinChanged_service (n m : Source) (s : State) : pinChanged (service n s) m = pinChanged s m :=
  pinChanged_congr (State.latch_congr (service_prev n s) m) fun a ha => by rw [byteAt_service, if_neg ha]

/-- With room the `pc` is pushed (60_exceptions R241). -/
theorem service_room (n : Source) {s : State} (h : s.sp.val ≠ 0) :
    (service n s).sp.val = s.sp.val - 1 ∧ (service n s).stackByte (service n s).sp.val = s.pc := by
  simp [service, State.stackByte, push_room, h]

/-! ## The interrupt check -/

theorem accepted_of_pcifr_zero {s : State} (h : s.byteAt pcifrAddr = 0x00#8) : accepted s = none := by
  simp [accepted, pending, h]

theorem accepted_zero {s : State} (hi : s.sr.i = true) (hp : pending s 0 = true) (he : enabled s 0 = true) :
    accepted s = some 0 := by
  simp [accepted, hi, hp, he]

/-! ## A NOP's step -/

/-- The state in which a NOP's step checks for an interrupt (40_control_unit R103). -/
def afterNop (s : State) : State := (fetchDecode s).setPhase .fetch

@[simp] theorem byteAt_afterNop (s : State) (a : Nat) : (afterNop s).byteAt a = s.byteAt a := by
  simp [afterNop]

@[simp] theorem pending_afterNop (s : State) (n : Source) : pending (afterNop s) n = pending s n := by
  simp [pending]

@[simp] theorem enabled_afterNop (s : State) (n : Source) : enabled (afterNop s) n = enabled s n := by
  simp [enabled]

@[simp] theorem pinChanged_afterNop (s : State) (n : Source) : pinChanged (afterNop s) n = pinChanged s n :=
  pinChanged_congr rfl fun a _ => byteAt_afterNop s a

theorem step_nop {s : State} (hp : s.phase = .fetch) (hd : decode (progRead s s.pc) = .instr .nop) :
    step s = .next (monitors (checkInterrupt (afterNop s))) :=
  step_of_exec_next hp hd rfl

/-- Where nothing is pending a NOP's step is left with the monitors. -/
theorem step_nop_of_pcifr_zero {s : State} (hp : s.phase = .fetch) (hd : decode (progRead s s.pc) = .instr .nop)
    (hz : s.byteAt pcifrAddr = 0x00#8) : step s = .next (monitors (afterNop s)) := by
  have ha : accepted (afterNop s) = none := accepted_of_pcifr_zero (by simpa using hz)
  rw [step_nop hp hd, checkInterrupt, ha]

/-- Where source 0 requests, a NOP's step services it before the monitors. -/
theorem step_nop_of_request {s : State} (hp : s.phase = .fetch) (hd : decode (progRead s s.pc) = .instr .nop)
    (hi : s.sr.i = true) (hq : pending s 0 = true) (he : enabled s 0 = true) :
    step s = .next (monitors (service 0 (afterNop s))) := by
  have ha : accepted (afterNop s) = some 0 := accepted_zero hi (by simpa using hq) (by simpa using he)
  rw [step_nop hp hd, checkInterrupt, ha]

/-- A NOP's step latches a change of an enabled pin in `PCIFR` and takes the sample (60_exceptions R236). -/
theorem pending_monitors_afterNop {s : State} {n : Source} (h : pinChanged s n = true) :
    pending (monitors (afterNop s)) n = true := by
  rw [pending_monitors, pinChanged_afterNop, h, Bool.or_true]

theorem enabled_monitors_afterNop (s : State) (n : Source) : enabled (monitors (afterNop s)) n = enabled s n := by
  simp only [enabled, byteAt_monitors_ne _ (show pcicrAddr ≠ pcifrAddr by decide), byteAt_afterNop]

/-- A NOP's step that services a source whose pin has not changed leaves no request of it (60_exceptions R241). -/
theorem pending_monitors_service_afterNop {s : State} {n : Source} (h : pinChanged s n = false) :
    pending (monitors (service n (afterNop s))) n = false := by
  simp [pending_monitors, pending_service, pinChanged_service, h]

/-- A NOP's step that services a source with room pushes the address after the NOP (60_exceptions R241). -/
theorem stack_monitors_service_afterNop {s u : State} (n : Source) (hu : u = monitors (service n (afterNop s)))
    (h : s.sp.val ≠ 0) : u.sp.val = s.sp.val - 1 ∧ u.stackByte u.sp.val = s.pc + 1#8 := by
  obtain ⟨hsp, hbyte⟩ := service_room n (s := afterNop s) h
  have husp : u.sp = (service n (afterNop s)).sp := hu ▸ monitors_sp _
  have hustack : u.stack = (service n (afterNop s)).stack := hu ▸ monitors_stack _
  rw [State.stackByte_congr hustack, husp]
  exact ⟨hsp, hbyte⟩

/-- Settles O51: the first step's check finds nothing pending and its monitors latch the request; the second step's check
services it, and its monitors find the sample taken. -/
theorem pinChangeIsServicedOneInstructionLater : Obligations.PinChangeIsServicedOneInstructionLater := by
  intro s hp hi he hz hchange hroom hd hd'
  obtain ⟨t, ht⟩ : ∃ t, t = monitors (afterNop s) := ⟨_, rfl⟩
  obtain ⟨u, hu⟩ : ∃ u, u = monitors (service 0 (afterNop t)) := ⟨_, rfl⟩
  have htpc : t.pc = s.pc + 1#8 := ht ▸ monitors_pc _
  have htsr : t.sr = s.sr := ht ▸ monitors_sr _
  have htsp : t.sp = s.sp := ht ▸ monitors_sp _
  have htcfg : t.cfg = s.cfg := ht ▸ monitors_cfg _
  have hti : t.sr.i = true := htsr ▸ hi
  have htpend : pending t 0 = true := ht ▸ pending_monitors_afterNop (bne_iff_ne.mpr hchange)
  have hten : enabled t 0 = true := ht ▸ (enabled_monitors_afterNop s 0).trans he
  have htd : decode (progRead t t.pc) = .instr .nop := by
    rw [htpc, progRead_congr (s := s) (ht ▸ monitors_prog _), hd']
  obtain ⟨husp, hutop⟩ := stack_monitors_service_afterNop 0 hu (htsp ▸ hroom)
  refine ⟨t, u, ht ▸ step_nop_of_pcifr_zero hp hd hz, htpc, hti, htpend, ht ▸ latch_monitors _ 0, htsp,
    hu ▸ step_nop_of_request (ht ▸ monitors_phase _) htd hti htpend hten, ?_, ?_, ?_, htsp ▸ husp, ?_⟩
  · rw [hu, monitors_pc, service_pc, ← htcfg]
    rfl
  · rw [hu, monitors_sr, service_sr]
  · exact hu ▸ pending_monitors_service_afterNop (ht ▸ pinChanged_monitors _ 0)
  · rw [hutop, htpc, BitVec.add_assoc]
    rfl

end Sys2Proof.Machine

/-! Encodings read off the operand roles of a kind (30_encoding R83), and NOP, LDI, MOV and CLR (41_data_movement). -/

namespace Sys2Proof.Machine

/-! ## Encodings -/

theorem decode_packWord_opcodeOf (k : Kind) (a b : Byte) : decode (packWord (opcodeOf k) a b) = build k a b :=
  (decode_packWord _ a b).trans (decodeFields_opcodeOf k a b)

theorem encodesNone_of_build {k : Kind} {i : Instr} (h : ∀ a b, build k a b = .instr i) : EncodesNone (opcodeOf k) i :=
  fun a b => (decode_packWord_opcodeOf k a b).trans (h a b)

theorem encodesRegByte_of_build {k : Kind} {f : Reg → Byte → Instr}
    (h : ∀ a b, build k a b = onReg a fun d => .instr (f d b)) : EncodesRegByte (opcodeOf k) f := by
  refine ⟨fun d x => ?_, fun b x hb => ?_⟩
  · rw [decode_packWord_opcodeOf, h, onReg_regByte]
  · rw [decode_packWord_opcodeOf, h, onReg_reserved hb]

/-- A kind that ignores `operand2` reads it as a byte that is no part of the instruction (30_encoding R89). -/
theorem encodesReg_of_build {k : Kind} {f : Reg → Instr} (h : ∀ a b, build k a b = onReg a fun d => .instr (f d)) :
    EncodesReg (opcodeOf k) f :=
  encodesRegByte_of_build (f := fun d _ => f d) h

theorem encodesRegReg_of_build {k : Kind} {f : Reg → Reg → Instr}
    (h : ∀ a b, build k a b = onReg a fun d => onReg b fun r => .instr (f d r)) : EncodesRegReg (opcodeOf k) f := by
  refine ⟨fun d r => ?_, fun b x hb => ?_, fun d b hb => ?_⟩
  · rw [decode_packWord_opcodeOf, h, onReg_regByte, onReg_regByte]
  · rw [decode_packWord_opcodeOf, h, onReg_reserved hb]
  · rw [decode_packWord_opcodeOf, h, onReg_regByte, onReg_reserved hb]

/-! ## Register writes -/

/-- A register write changes that register alone (10_state R21). -/
theorem onlyReg_setX (s : State) (d : Reg) (v : Byte) : OnlyReg d s (s.setX d v) := by
  have hregs : SameRegsBut d s (s.setX d v) := fun r hr => by rw [State.x_setX, if_neg hr]
  have hstack : SameStack s (s.setX d v) := ⟨rfl, State.stackByte_setX s d v⟩
  exact ⟨hregs, rfl, rfl, State.byteAt_setX s d v, hstack, ⟨rfl, rfl, rfl⟩, apply_sameControl (.setReg d v) s⟩

theorem loads_setX (s : State) (d : Reg) (v : Byte) : Loads (.next (s.setX d v)) s d v :=
  ⟨_, rfl, State.x_setX_self s d v, onlyReg_setX s d v⟩

/-- Settles O26: each of the three meanings is one register write. -/
theorem ldiMovClrWriteOneRegister : Obligations.LdiMovClrWriteOneRegister := by
  refine ⟨encodesRegByte_of_build (k := .ldi) fun _ _ => rfl, encodesRegReg_of_build (k := .mov) fun _ _ => rfl,
    encodesReg_of_build (k := .clr) fun _ _ => rfl, fun s d => ?_⟩
  exact ⟨fun k => loads_setX s d k, fun r => loads_setX s d (s.x r), loads_setX s d 0x00#8⟩

/-! ## NOP -/

/-- Settles O25: opcode 0 is NOP's with both bytes unused, and its tail runs on `afterNop s`. -/
theorem nopChangesNothing : Obligations.NopChangesNothing := by
  refine ⟨encodesNone_of_build (k := .nop) fun _ _ => rfl, decode_encode .nop, fun s => rfl, fun s hp ho => ?_⟩
  have hd : decode (progRead s s.pc) = .instr .nop := decode_opcodeOf (k := .nop) ho
  exact ⟨afterNop s, rfl, x_fetchDecode s, rfl, byteAt_afterNop s, ⟨rfl, fun _ => rfl⟩, ⟨rfl, rfl, rfl⟩, rfl, rfl, rfl,
    rfl, step_nop hp hd⟩

end Sys2Proof.Machine

/-! The instructions of 42_io_and_memory: their encodings, what a load and a store through any address do, and which
instructions write data memory. -/

namespace Sys2Proof.Machine

/-! ## Encodings -/

theorem encodesByteReg_of_build {k : Kind} {f : Byte → Reg → Instr}
    (h : ∀ a b, build k a b = onReg b fun r => .instr (f a r)) : EncodesByteReg (opcodeOf k) f := by
  refine ⟨fun a r => ?_, fun a b hb => ?_⟩
  · rw [decode_packWord_opcodeOf, h, onReg_regByte]
  · rw [decode_packWord_opcodeOf, h, onReg_reserved hb]

theorem encodesPtrReg_of_build {k : Kind} {f : PtrLow → Reg → Instr}
    (h : ∀ a b, build k a b = onPtr a fun p => onReg b fun r => .instr (f p r)) : EncodesPtrReg (opcodeOf k) f := by
  refine ⟨fun p r => ?_, fun b x hb => ?_, fun p b hb => ?_⟩
  · rw [decode_packWord_opcodeOf, h, onPtr_ptrByte, onReg_regByte]
  · rw [decode_packWord_opcodeOf, h, onPtr_reserved hb]
  · rw [decode_packWord_opcodeOf, h, onPtr_ptrByte, onReg_reserved hb]

theorem encodesRegPtr_of_build {k : Kind} {f : Reg → PtrLow → Instr}
    (h : ∀ a b, build k a b = onReg a fun d => onPtr b fun p => .instr (f d p)) : EncodesRegPtr (opcodeOf k) f := by
  refine ⟨fun d p => ?_, fun b x hb => ?_, fun d b hb => ?_⟩
  · rw [decode_packWord_opcodeOf, h, onReg_regByte, onPtr_ptrByte]
  · rw [decode_packWord_opcodeOf, h, onReg_reserved hb]
  · rw [decode_packWord_opcodeOf, h, onReg_regByte, onPtr_reserved hb]

/-! ## Which effects write data memory -/

/-- The address an effect stores to, if it stores. -/
def Effect.storeAddr? : Effect → Option Nat
  | .store a _ => some a
  | _ => none

@[simp] theorem storeAddr?_effectOf (i : Instr) (s : State) : (effectOf i s).storeAddr? = storeAddr? s i := by
  cases i <;> rfl

theorem storeFrom_sameMemBut (a : Nat) (r : Reg) (s : State) : SameMemBut a s (storeFrom a r s) :=
  memWrite_sameMemBut a (s.x r) s

/-- An effect changes no byte of data memory but the one it stores to. -/
theorem byteAt_apply_of_ne_storeAddr {e : Effect} {a : Nat} (s : State) (h : e.storeAddr? ≠ some a) :
    (e.apply s).byteAt a = s.byteAt a := by
  cases e with
  | store b r => exact storeFrom_sameMemBut b r s a fun he => h (congrArg some he.symm)
  | idle | setReg | load | alu | compare | jumpIf | callTo | ret | reti | pushByte | popInto | setEnable =>
    exact State.byteAt_congr (s := s) (by simp [Effect.apply]) a

/-- Settles O21: the effect's address is the instruction's. -/
theorem onlyStoresChangeDataMemory : Obligations.OnlyStoresChangeDataMemory := by
  intro i s t h a ha
  rw [exec_next h]
  exact byteAt_apply_of_ne_storeAddr s (by simpa using ha)

/-! ## Loads -/

/-- A load in range is a register write, of the byte at the address (20_memory R54). -/
theorem loadInto_inRange (d : Reg) {a : Nat} (s : State) (h : a < dmemSize) :
    loadInto d a s = s.setX d (s.byteAt a) := by
  rw [loadInto, memRead_snd_inRange s h, memRead_fst]

theorem loads_loadInto (d : Reg) {a : Nat} (s : State) (h : a < dmemSize) :
    Loads (.next (loadInto d a s)) s d (s.byteAt a) :=
  loadInto_inRange d s h ▸ loads_setX s d (s.byteAt a)

/-- Settles O27: both are loads, and every direct address is in range. -/
theorem inAndLdsLoadOneByte : Obligations.InAndLdsLoadOneByte :=
  ⟨encodesRegByte_of_build (k := .inp) fun _ _ => rfl, encodesRegByte_of_build (k := .lds) fun _ _ => rfl,
    fun s d k => ⟨loads_loadInto d s (ioAddress_inRange k), loads_loadInto d s (extAddress_inRange k)⟩⟩

/-- All that a load of `d` from `a` does, in range or not (20_memory R54). -/
def LoadedFrom (a : Nat) (d : Reg) (s t : State) : Prop :=
  t.x d = s.byteAt a ∧ (dmemSize ≤ a → t.x d = 0x00#8) ∧ t.memOor = (s.memOor || decide (dmemSize ≤ a)) ∧
    SameRegsBut d s t ∧ t.sr = s.sr ∧ t.pc = s.pc ∧ SameMem s t ∧ SameStack s t ∧ t.stkOvf = s.stkOvf ∧
    t.stkUnf = s.stkUnf ∧ SameControl s t

theorem byteAt_outOfRange {a : Nat} (s : State) (h : dmemSize ≤ a) : s.byteAt a = 0x00#8 := by
  rw [State.byteAt_eq, if_neg (Nat.not_lt.mpr h)]

theorem loadedFrom_loadInto (a : Nat) (d : Reg) (s : State) : LoadedFrom a d s (loadInto d a s) := by
  have hd : (loadInto d a s).x d = s.byteAt a := by rw [x_loadInto, if_pos rfl]
  have hregs : SameRegsBut d s (loadInto d a s) := fun r hr => by rw [x_loadInto, if_neg hr]
  obtain ⟨hstack, hovf, hunf⟩ := apply_sameStackUnit (e := .load d a) s rfl
  exact ⟨hd, fun h => hd.trans (byteAt_outOfRange s h), loadInto_memOor d a s, hregs, loadInto_sr d a s,
    loadInto_pc d a s, State.byteAt_congr (loadInto_dmem d a s), hstack, hovf, hunf, apply_sameControl (.load d a) s⟩

/-! ## Stores -/

/-- All that a store of `r` to `a` does, in range or not (20_memory R55). -/
def StoredTo (a : Nat) (r : Reg) (s t : State) : Prop :=
  (a < dmemSize → t.byteAt a = s.x r) ∧ (dmemSize ≤ a → SameMem s t) ∧ SameMemBut a s t ∧
    t.memOor = (s.memOor || decide (dmemSize ≤ a)) ∧ SameRegs s t ∧ t.sr = s.sr ∧ t.pc = s.pc ∧ SameStack s t ∧
    t.stkOvf = s.stkOvf ∧ t.stkUnf = s.stkUnf ∧ SameControl s t

theorem storedTo_storeFrom (a : Nat) (r : Reg) (s : State) : StoredTo a r s (storeFrom a r s) := by
  have hout (h : dmemSize ≤ a) : SameMem s (storeFrom a r s) := by
    rw [storeFrom, memWrite_outOfRange _ s h]
    exact State.byteAt_markOor s
  obtain ⟨hstack, hovf, hunf⟩ := apply_sameStackUnit (e := .store a r) s rfl
  exact ⟨byteAt_memWrite_self (s.x r) s, hout, storeFrom_sameMemBut a r s, storeFrom_memOor a r s,
    x_memWrite a (s.x r) s, storeFrom_sr a r s, storeFrom_pc a r s, hstack, hovf, hunf,
    apply_sameControl (.store a r) s⟩

/-- A store in range writes its byte and changes nothing else. -/
theorem StoredTo.onlyMem {a : Nat} {r : Reg} {s t : State} (h : StoredTo a r s t) (ha : a < dmemSize) :
    t.byteAt a = s.x r ∧ OnlyMem a s t := by
  obtain ⟨hbyte, -, hmem, hoor, hregs, hsr, hpc, hstack, hovf, hunf, hcontrol⟩ := h
  have hoor : t.memOor = s.memOor := by simpa [Nat.not_le.mpr ha] using hoor
  exact ⟨hbyte ha, hmem, hregs, hsr, hpc, hstack, ⟨hovf, hunf, hoor⟩, hcontrol⟩

/-- Settles O28: both are stores, and every direct address is in range. -/
theorem outAndStsStoreOneByte : Obligations.OutAndStsStoreOneByte :=
  ⟨encodesByteReg_of_build (k := .out) fun _ _ => rfl, encodesByteReg_of_build (k := .sts) fun _ _ => rfl,
    fun s k r => ⟨⟨rfl, _, rfl, (storedTo_storeFrom _ r s).onlyMem (ioAddress_inRange k)⟩,
      ⟨rfl, _, rfl, (storedTo_storeFrom _ r s).onlyMem (extAddress_inRange k)⟩⟩⟩

/-! ## The pointer -/

theorem refIoAddress_eq (p : PtrLow) (s : State) : refIoAddress p s = pointerNat p s := toNat_ptr p s

theorem refDataAddress_eq (p : PtrLow) (s : State) : refDataAddress p s = pointerNat p s + 256 :=
  congrArg (· + 256) (toNat_ptr p s)

theorem designated_iff {cfg : Config} {p : PtrLow} : cfg.designated p = true ↔ p = cfg.ptrALo ∨ p = cfg.ptrBLo := by
  simp [Config.designated]

theorem not_designated {cfg : Config} {p : PtrLow} (hA : p ≠ cfg.ptrALo) (hB : p ≠ cfg.ptrBLo) :
    cfg.designated p = false :=
  Bool.eq_false_iff.mpr fun h => (designated_iff.mp h).elim hA hB

/-- Settles O29: behind the pointer check both are loads; the pointer is read in the state before them. -/
theorem ldioAndLdLoadThroughThePointer : Obligations.LdioAndLdLoadThroughThePointer := by
  refine ⟨encodesRegPtr_of_build (k := .ldio) fun _ _ => rfl, encodesRegPtr_of_build (k := .ld) fun _ _ => rfl,
    fun s d p => ⟨fun hp => ?_, fun hA hB => ?_⟩⟩
  · have hp := designated_iff.mpr hp
    rw [← refDataAddress_eq, ← refIoAddress_eq]
    exact ⟨⟨_, onPair_designated hp _, loadedFrom_loadInto _ d s⟩, ⟨_, onPair_designated hp _, loadedFrom_loadInto _ d s⟩⟩
  · have hp := not_designated hA hB
    exact ⟨onPair_reserved hp _, onPair_reserved hp _⟩

/-- Settles O30: behind the pointer check both are stores. -/
theorem stioAndStStoreThroughThePointer : Obligations.StioAndStStoreThroughThePointer := by
  refine ⟨encodesPtrReg_of_build (k := .stio) fun _ _ => rfl, encodesPtrReg_of_build (k := .st) fun _ _ => rfl,
    fun s p r => ⟨refIoAddress_eq p s, refDataAddress_eq p s, fun hp => ?_, fun hA hB => ?_⟩⟩
  · have hp := designated_iff.mpr hp
    exact ⟨⟨_, onPair_designated hp _, storedTo_storeFrom _ r s⟩, ⟨_, onPair_designated hp _, storedTo_storeFrom _ r s⟩⟩
  · have hp := not_designated hA hB
    exact ⟨onPair_reserved hp _, onPair_reserved hp _⟩

end Sys2Proof.Machine

/-! The ALU instructions (43_alu): the flags of an ALU call as exact arithmetic, and what a call with and without a
destination leaves alone. -/

namespace Sys2Proof.Machine

/-! ## Flags -/

theorem aluStatus_n (op : AluOp) (a b : Byte) (f : Status) : (aluStatus op a b f).n = (aluResult op a b).msb :=
  aluNegative_eq op a b

theorem aluStatus_z (op : AluOp) (a b : Byte) (f : Status) :
    (aluStatus op a b f).z = decide (aluResult op a b = 0#8) := beq_eq_decide _ _

theorem aluStatus_v (op : AluOp) (a b : Byte) (f : Status) : (aluStatus op a b f).v = aluOverflow op a b := rfl

/-- The sign of an exact sum or difference of two bytes is the wrapped byte's sign, corrected by overflow (43_alu R155). -/
theorem sign_wrapped_xor_overflow {r : Byte} {x : Int} (hr : r.toInt = x.bmod 256) (h1 : -256 ≤ x) (h2 : x ≤ 255) :
    (r.msb ^^ decide (x < -128 ∨ 127 < x)) = decide (x < 0) := by
  rw [msb_iff_toInt_neg, hr, bmod_byte h1 h2, Bool.eq_iff_iff]
  simp only [bne_iff_ne, ne_eq, decide_eq_decide, decide_eq_true_eq]
  split_ifs <;> omega

theorem addFlags_aluStatus (a b : Byte) (f : Status) : AddFlags a b (aluStatus .add a b f) := by
  have hn : (aluStatus .add a b f).n = (a + b).msb := aluResult_add a b ▸ aluStatus_n .add a b f
  have hz : (aluStatus .add a b f).z = decide (a + b = 0#8) := aluResult_add a b ▸ aluStatus_z .add a b f
  have hs : (aluStatus .add a b f).s = decide (a.toInt + b.toInt < 0) := by
    have ha := toInt_byte a
    have hb := toInt_byte b
    rw [aluStatus_s, hn, aluStatus_v, aluOverflow_add,
      sign_wrapped_xor_overflow (BitVec.toInt_add a b) (by omega) (by omega)]
  exact ⟨aluCarry_add a b, aluOverflow_add a b, hz, hn, hs⟩

theorem subFlags_aluStatus (a b : Byte) (f : Status) : SubFlags a b (aluStatus .sub a b f) := by
  have hn : (aluStatus .sub a b f).n = (a - b).msb := aluResult_sub a b ▸ aluStatus_n .sub a b f
  have hz : (aluStatus .sub a b f).z = decide (a = b) := by
    rw [aluStatus_z, aluResult_sub, decide_eq_decide]
    exact sub_eq_zero
  have hs : (aluStatus .sub a b f).s = decide (a.toInt < b.toInt) := by
    have ha := toInt_byte a
    have hb := toInt_byte b
    rw [aluStatus_s, hn, aluStatus_v, aluOverflow_sub,
      sign_wrapped_xor_overflow BitVec.toInt_sub (by omega) (by omega), decide_eq_decide, sub_lt_zero]
  exact ⟨aluCarry_sub a b, aluOverflow_sub a b, hz, hn, hs⟩

/-- An operation that never carries and never overflows leaves S at N (43_alu R151, R155). -/
theorem logicFlags_aluStatus {op : AluOp} {a b : Byte} (hc : aluCarry op a b = false) (hv : aluOverflow op a b = false)
    (f : Status) : LogicFlags (aluResult op a b) (aluStatus op a b f) := by
  have hn := aluStatus_n op a b f
  have hs : (aluStatus op a b f).s = (aluResult op a b).msb := by
    rw [aluStatus_s, hn, aluStatus_v, hv, Bool.xor_false]
  exact ⟨hc, hv, aluStatus_z op a b f, hn, hs⟩

/-! ## What an ALU call leaves alone -/

/-- A compare writes the status register alone (43_alu R169, R170). -/
theorem onlyStatus_aluCompare (op : AluOp) (a b : Byte) (s : State) : OnlyStatus s (aluCompare op a b s) := by
  have hstack : SameStack s (aluCompare op a b s) := ⟨rfl, State.stackByte_setSr s _⟩
  exact ⟨State.x_setSr s _, rfl, State.byteAt_setSr s _, hstack, ⟨rfl, rfl, rfl⟩, apply_sameControl (.compare op a b) s⟩

/-- An ALU call with a destination is the compare's flags and one register write (43_alu R157). -/
theorem onlyRegAndFlags_aluInto (op : AluOp) (d : Reg) (a b : Byte) (s : State) :
    OnlyRegAndFlags d s (aluInto op d a b s) := by
  have hregs : SameRegsBut d s (aluInto op d a b s) := fun r hr => by rw [x_aluInto, if_neg hr]
  have hmem : SameMem s (aluInto op d a b s) := State.byteAt_congr (aluInto_dmem op d a b s)
  obtain ⟨hstack, hovf, hunf⟩ := apply_sameStackUnit (e := .alu op d a b) s rfl
  exact ⟨hregs, rfl, rfl, hmem, hstack, ⟨hovf, hunf, rfl⟩, apply_sameControl (.alu op d a b) s⟩

theorem computes_aluInto {op : AluOp} {a b v : Byte} {flags : Status → Prop} (d : Reg) (s : State)
    (hv : aluResult op a b = v) (hflags : flags (aluStatus op a b s.sr)) :
    Computes (.next (aluInto op d a b s)) s d v flags := by
  have hd : (aluInto op d a b s).x d = v := by rw [x_aluInto, if_pos rfl, hv]
  exact ⟨_, rfl, hd, hflags, onlyRegAndFlags_aluInto op d a b s⟩

/-! ## The logic instructions -/

theorem computes_or (d : Reg) (a b : Byte) (s : State) :
    Computes (.next (aluInto .or d a b s)) s d (a ||| b) (LogicFlags (a ||| b)) :=
  computes_aluInto d s (aluResult_or a b) (aluResult_or a b ▸ logicFlags_aluStatus rfl rfl s.sr)

theorem computes_and (d : Reg) (a b : Byte) (s : State) :
    Computes (.next (aluInto .and d a b s)) s d (a &&& b) (LogicFlags (a &&& b)) :=
  computes_aluInto d s (aluResult_and a b) (aluResult_and a b ▸ logicFlags_aluStatus rfl rfl s.sr)

theorem computes_xor (d : Reg) (a b : Byte) (s : State) :
    Computes (.next (aluInto .xor d a b s)) s d (a ^^^ b) (LogicFlags (a ^^^ b)) :=
  computes_aluInto d s (aluResult_xor a b) (aluResult_xor a b ▸ logicFlags_aluStatus rfl rfl s.sr)

/-- Settles O34: each of the six is one ALU call that reads its operands before the write, so d = r is no case of its own. -/
theorem logicInstructionsComputeBitwise : Obligations.LogicInstructionsComputeBitwise := by
  refine ⟨encodesRegByte_of_build (k := .ori) fun _ _ => rfl, encodesRegByte_of_build (k := .andi) fun _ _ => rfl,
    encodesRegByte_of_build (k := .xori) fun _ _ => rfl, encodesRegReg_of_build (k := .or) fun _ _ => rfl,
    encodesRegReg_of_build (k := .and) fun _ _ => rfl, encodesRegReg_of_build (k := .xor) fun _ _ => rfl,
    fun s d => ⟨fun k => ?_, fun r => ?_⟩⟩
  · exact ⟨computes_or d (s.x d) k s, computes_and d (s.x d) k s, computes_xor d (s.x d) k s⟩
  · exact ⟨computes_or d (s.x d) (s.x r) s, computes_and d (s.x d) (s.x r) s, computes_xor d (s.x d) (s.x r) s⟩

/-! ## Additions and subtractions -/

theorem computes_add (d : Reg) (a b : Byte) (s : State) :
    Computes (.next (aluInto .add d a b s)) s d (BitVec.ofNat 8 (a.toNat + b.toNat)) (AddFlags a b) :=
  computes_aluInto d s (aluResult_add a b) (addFlags_aluStatus a b s.sr)

theorem aluResult_sub_eq_ofInt (a b : Byte) : aluResult .sub a b = BitVec.ofInt 8 (a.toNat - b.toNat) := by
  apply BitVec.eq_of_toNat_eq
  rw [aluResult_sub, BitVec.toNat_sub, BitVec.toNat_ofInt]
  omega

theorem computes_sub (d : Reg) (a b : Byte) (s : State) :
    Computes (.next (aluInto .sub d a b s)) s d (BitVec.ofInt 8 (a.toNat - b.toNat)) (SubFlags a b) :=
  computes_aluInto d s (aluResult_sub_eq_ofInt a b) (subFlags_aluStatus a b s.sr)

/-- Settles O35: all three are ALU additions, INC of the byte 1 (log entry 13). -/
theorem additionsAreExact : Obligations.AdditionsAreExact := by
  refine ⟨encodesRegByte_of_build (k := .addi) fun _ _ => rfl, encodesRegReg_of_build (k := .add) fun _ _ => rfl,
    encodesReg_of_build (k := .inc) fun _ _ => rfl, fun s d => ?_⟩
  exact ⟨fun k => computes_add d (s.x d) k s, fun r => computes_add d (s.x d) (s.x r) s,
    computes_add d (s.x d) 0x01#8 s⟩

/-- Settles O36: all three are ALU subtractions, DEC of the byte 1 (log entries 13, 20). -/
theorem subtractionsAreExact : Obligations.SubtractionsAreExact := by
  refine ⟨encodesRegByte_of_build (k := .subi) fun _ _ => rfl, encodesRegReg_of_build (k := .sub) fun _ _ => rfl,
    encodesReg_of_build (k := .dec) fun _ _ => rfl, fun s d => ?_⟩
  exact ⟨fun k => computes_sub d (s.x d) k s, fun r => computes_sub d (s.x d) (s.x r) s,
    computes_sub d (s.x d) 0x01#8 s⟩

/-! ## Compares -/

/-- Settles O37: both are the flag part of an ALU subtraction. -/
theorem comparesWriteOnlyFlags : Obligations.ComparesWriteOnlyFlags := by
  refine ⟨encodesRegByte_of_build (k := .cpi) fun _ _ => rfl, encodesRegReg_of_build (k := .cp) fun _ _ => rfl,
    fun s d => ⟨fun k => ?_, fun r => ?_⟩⟩
  · exact ⟨_, rfl, subFlags_aluStatus (s.x d) k s.sr, rfl, onlyStatus_aluCompare .sub (s.x d) k s⟩
  · exact ⟨_, rfl, subFlags_aluStatus (s.x d) (s.x r) s.sr, rfl, onlyStatus_aluCompare .sub (s.x d) (s.x r) s⟩

end Sys2Proof.Machine

/-! JMP and the branches (44_control_transfer R181 to R187): the conditions in the flags, and in the operands of a compare
(43_alu R156). -/

namespace Sys2Proof.Machine

/-- A kind with a plain byte in `operand1` ignores `operand2` (30_encoding R89). -/
theorem encodesByte_of_build {k : Kind} {f : Byte → Instr} (h : ∀ a b, build k a b = .instr (f a)) :
    EncodesByte (opcodeOf k) f :=
  fun a b => (decode_packWord_opcodeOf k a b).trans (h a b)

/-! ## Jumps -/

theorem onlyPc_branchIf (c : Bool) (t : Byte) (s : State) : OnlyPc s (branchIf c t s) := by
  obtain ⟨hstack, hovf, hunf⟩ := apply_sameStackUnit (e := .jumpIf c t) s rfl
  exact ⟨State.x_congr (branchIf_regs c t s), branchIf_sr c t s, State.byteAt_congr (branchIf_dmem c t s), hstack,
    ⟨hovf, hunf, branchIf_memOor c t s⟩, apply_sameControl (.jumpIf c t) s⟩

/-- A branch goes to its target exactly when its condition holds (44_control_transfer R180). -/
theorem jumps_branchIf {c : Bool} {p : Prop} [Decidable p] (t : Byte) (s : State) (h : c = true ↔ p) :
    Jumps (.next (branchIf c t s)) s (if p then t else s.pc) := by
  have hpc : (branchIf c t s).pc = if p then t else s.pc := by simp only [branchIf_pc, h]
  exact ⟨_, rfl, hpc, onlyPc_branchIf c t s⟩

/-- The jump of JMP is a branch that is always taken. -/
theorem jumps_setPc (t : Byte) (s : State) : Jumps (.next (s.setPc t)) s t :=
  jumps_branchIf (c := true) (p := True) t s (iff_of_true rfl trivial)

/-! ## The conditions -/

theorem condEq_iff {f : Status} : condEq f = true ↔ f.z = true := Iff.rfl

theorem condNe_iff {f : Status} : condNe f = true ↔ f.z = false := by
  rw [condNe, Bool.not_eq_true']

theorem condGe_iff {f : Status} : condGe f = true ↔ f.s = false := by
  rw [condGe, Bool.not_eq_true']

theorem condGt_iff {f : Status} : condGt f = true ↔ f.s = false ∧ f.z = false := by
  rw [condGt, Bool.and_eq_true, Bool.not_eq_true', Bool.not_eq_true']

theorem condLe_iff {f : Status} : condLe f = true ↔ f.s = true ∨ f.z = true := by
  rw [condLe, Bool.or_eq_true]

theorem condLt_iff {f : Status} : condLt f = true ↔ f.s = true := Iff.rfl

/-- Settles O39: each is a branch on its condition, JMP on none. -/
theorem jumpAndBranchesSetOnlyThePc : Obligations.JumpAndBranchesSetOnlyThePc := by
  refine ⟨encodesByte_of_build (k := .jmp) fun _ _ => rfl, encodesByte_of_build (k := .breq) fun _ _ => rfl,
    encodesByte_of_build (k := .brne) fun _ _ => rfl, encodesByte_of_build (k := .brge) fun _ _ => rfl,
    encodesByte_of_build (k := .brgt) fun _ _ => rfl, encodesByte_of_build (k := .brle) fun _ _ => rfl,
    encodesByte_of_build (k := .brlt) fun _ _ => rfl, fun s t => ?_⟩
  exact ⟨jumps_setPc t s, jumps_branchIf t s condEq_iff, jumps_branchIf t s condNe_iff, jumps_branchIf t s condGe_iff,
    jumps_branchIf t s condGt_iff, jumps_branchIf t s condLe_iff, jumps_branchIf t s condLt_iff⟩

/-! ## The conditions after a compare -/

section
variable {a b : Byte} {f : Status}

theorem condEq_iff_of_subFlags (h : SubFlags a b f) : condEq f = true ↔ a = b := by
  obtain ⟨-, -, hz, -, -⟩ := h
  rw [condEq_iff, hz, decide_eq_true_iff]

theorem condNe_iff_of_subFlags (h : SubFlags a b f) : condNe f = true ↔ ¬a = b := by
  obtain ⟨-, -, hz, -, -⟩ := h
  rw [condNe_iff, hz, decide_eq_false_iff_not]

theorem condLt_iff_of_subFlags (h : SubFlags a b f) : condLt f = true ↔ a.toInt < b.toInt := by
  obtain ⟨-, -, -, -, hs⟩ := h
  rw [condLt_iff, hs, decide_eq_true_iff]

theorem condGe_iff_of_subFlags (h : SubFlags a b f) : condGe f = true ↔ b.toInt ≤ a.toInt := by
  obtain ⟨-, -, -, -, hs⟩ := h
  rw [condGe_iff, hs, decide_eq_false_iff_not, not_lt]

/-- S or Z is the order, since bytes are equal exactly as their signed values are. -/
theorem condLe_iff_of_subFlags (h : SubFlags a b f) : condLe f = true ↔ a.toInt ≤ b.toInt := by
  obtain ⟨-, -, hz, -, hs⟩ := h
  rw [condLe_iff, hs, hz, decide_eq_true_iff, decide_eq_true_iff, ← BitVec.toInt_inj, le_iff_lt_or_eq]

theorem condGt_iff_of_subFlags (h : SubFlags a b f) : condGt f = true ↔ b.toInt < a.toInt := by
  have hle := condLe_iff_of_subFlags h
  rw [show condGt f = !condLe f from (Bool.not_or f.s f.z).symm, Bool.not_eq_true', ← Bool.not_eq_true, hle, not_le]

end

/-- Settles O38: both compares leave the flags of a - b, and each condition reads them as its own relation. -/
theorem branchesAfterCompareAreSigned : Obligations.BranchesAfterCompareAreSigned := by
  intro s c a b t hc
  have hexec : exec c s = .next (aluCompare .sub a b s) := by
    rcases hc with ⟨d, k, rfl, rfl, rfl⟩ | ⟨d, r, rfl, rfl, rfl⟩ <;> rfl
  have hflags : SubFlags a b (aluCompare .sub a b s).sr := subFlags_aluStatus a b s.sr
  refine ⟨_, hexec, jumps_branchIf t _ (condEq_iff_of_subFlags hflags), ?_,
    jumps_branchIf t _ (condGe_iff_of_subFlags hflags), jumps_branchIf t _ (condGt_iff_of_subFlags hflags),
    jumps_branchIf t _ (condLe_iff_of_subFlags hflags), jumps_branchIf t _ (condLt_iff_of_subFlags hflags)⟩
  rw [← ite_not]
  exact jumps_branchIf t _ (condNe_iff_of_subFlags hflags)

end Sys2Proof.Machine

/-! CALL, RET and RETI (44_control_transfer R188 to R190): what one push and one pop do to the stack, and an interrupt taken
right after RETI. -/

namespace Sys2Proof.Machine

/-! ## One push and one pop -/

theorem pushedOn_push (v : Byte) (s : State) : PushedOn v s (push v s) := by
  refine ⟨fun h => ?_, fun h => ?_⟩
  · rw [push_room v h]
    exact ⟨rfl, cellAt_writeCell_self _ _ _, fun j hj => (cellAt_writeCell _ _ _ _).trans (if_neg hj), rfl⟩
  · rw [push_full v h]
    exact ⟨⟨rfl, fun _ => rfl⟩, rfl⟩

theorem poppedFrom_pop (s : State) : PoppedFrom (pop s).1 s (pop s).2 := by
  refine ⟨fun h => ?_, fun h => ?_, stackByte_pop_snd s⟩
  · rw [pop_nonempty h]
    exact ⟨rfl, rfl, rfl⟩
  · rw [pop_empty h]
    exact ⟨rfl, rfl, rfl⟩

/-! ## The instructions -/

/-- Settles O40: CALL is a push and a jump. -/
theorem callPushesThePcAndJumps : Obligations.CallPushesThePcAndJumps := by
  refine ⟨encodesByte_of_build (k := .call) fun _ _ => rfl, fun s t => ⟨(push s.pc s).setPc t, rfl, rfl, ?_⟩⟩
  exact ⟨pushedOn_push s.pc s, x_push s.pc s, push_sr s.pc s, State.byteAt_congr (push_dmem s.pc s), push_stkUnf s.pc s,
    push_memOor s.pc s, apply_sameControl (.callTo t) s⟩

/-- The popped address is the new `pc` (44_control_transfer R188). -/
theorem poppedFrom_popPc (s : State) : PoppedFrom (popPc s).pc s (popPc s) := poppedFrom_pop s

theorem poppedFrom_returnFromInterrupt (s : State) : PoppedFrom (returnFromInterrupt s).pc s (returnFromInterrupt s) :=
  poppedFrom_pop s

/-- Settles O42: the pop takes the byte that the push stored, and the push stored below the bytes that were live. -/
theorem callThenReturnRestoresTheCounter : Obligations.CallThenReturnRestoresTheCounter := by
  intro s t hroom
  obtain ⟨hpush, -⟩ := pushedOn_push s.pc s
  obtain ⟨hsp, htop, hother, -⟩ := hpush hroom
  refine ⟨(push s.pc s).setPc t, rfl, rfl, fun v hvsp hlive => ⟨popPc v, rfl, ?_⟩⟩
  simp only [State.setPc_sp, State.stackByte_setPc] at hvsp hlive
  obtain ⟨hpop, -, hcells⟩ := poppedFrom_popPc v
  obtain ⟨hpc, hwsp, -⟩ := hpop (hvsp ▸ push_room_sp_ne_stackCap s.pc hroom)
  refine ⟨?_, Fin.ext ?_, fun j hj => ?_⟩
  · rw [hpc, hvsp, hlive _ le_rfl, htop]
  · rw [hwsp, hvsp]
    omega
  · have hj' : (push s.pc s).sp.val < j := by omega
    rw [hcells, hlive j hj'.le, hother j hj'.ne']

/-! ## An interrupt right after RETI -/

/-- The check accepts the first source that is pending and enabled (60_exceptions R239, R240). -/
theorem accepted_first {s : State} {n : Source} (hi : s.sr.i = true) (hp : pending s n = true) (he : enabled s n = true)
    (hfirst : ∀ m, m < n → ¬(pending s m = true ∧ enabled s m = true)) : accepted s = some n := by
  fin_cases n
  · exact accepted_zero hi hp he
  · have h0 := hfirst 0 (by decide)
    simpa [accepted, hi, h0] using And.intro hp he
  · have h0 := hfirst 0 (by decide)
    have h1 := hfirst 1 (by decide)
    simpa [accepted, hi, h0, h1] using And.intro hp he

/-- Taking an interrupt right after a pop of the `pc` puts the popped address back (44_control_transfer R189). -/
theorem service_after_pop (n : Source) {s u : State} (hne : s.sp.val ≠ stackCap) (hu : PoppedFrom u.pc s u) :
    (service n u).sp = s.sp ∧ (service n u).stackByte s.sp.val = s.stackByte s.sp.val := by
  obtain ⟨hpop, -, -⟩ := hu
  obtain ⟨hpc, hsp, -⟩ := hpop hne
  obtain ⟨hsp', htop⟩ := service_room n (s := u) (by omega)
  have hkeep : (service n u).sp = s.sp := Fin.ext (by omega)
  rw [hkeep, hpc] at htop
  exact ⟨hkeep, htop⟩

/-- The state in which RETI's step checks for an interrupt (40_control_unit R103). -/
def afterReti (s : State) : State := (returnFromInterrupt (fetchDecode s)).setPhase .fetch

theorem step_reti {s : State} (hp : s.phase = .fetch) (hd : decode (progRead s s.pc) = .instr .reti) :
    step s = .next (monitors (checkInterrupt (afterReti s))) :=
  step_of_exec_next hp hd rfl

theorem poppedFrom_afterReti (s : State) : PoppedFrom (afterReti s).pc s (afterReti s) := poppedFrom_pop (fetchDecode s)

theorem byteAt_afterReti (s : State) (a : Nat) : (afterReti s).byteAt a = s.byteAt a :=
  State.byteAt_congr (s := s) (by simp [afterReti]) a

theorem afterReti_sr_i (s : State) : (afterReti s).sr.i = true := rfl

theorem accepted_afterReti {s : State} {n : Source} (hp : pending s n = true) (he : enabled s n = true)
    (hfirst : ∀ m, m < n → ¬(pending s m = true ∧ enabled s m = true)) : accepted (afterReti s) = some n := by
  simp only [pending, enabled, ← byteAt_afterReti s] at hp he hfirst
  exact accepted_first (afterReti_sr_i s) hp he hfirst

/-- Settles O41: both are a pop of the `pc`, RETI with a write of I; its step's check then accepts the first request. -/
theorem retAndRetiPopThePc : Obligations.RetAndRetiPopThePc := by
  refine ⟨encodesNone_of_build (k := .ret) fun _ _ => rfl, encodesNone_of_build (k := .reti) fun _ _ => rfl,
    fun s => ⟨⟨popPc s, rfl, ?_⟩, ⟨returnFromInterrupt s, rfl, ?_⟩, fun n hp hd hne hpend hen hfirst => ?_⟩⟩
  · exact ⟨poppedFrom_popPc s, popPc_sr s, State.x_congr (popPc_regs s), State.byteAt_congr (popPc_dmem s),
      popPc_stkOvf s, popPc_memOor s, apply_sameControl .ret s⟩
  · exact ⟨poppedFrom_returnFromInterrupt s, rfl, apply_sameArithmeticFlags (e := .reti) s rfl,
      State.x_congr (returnFromInterrupt_regs s), State.byteAt_congr (returnFromInterrupt_dmem s),
      returnFromInterrupt_stkOvf s, returnFromInterrupt_memOor s, apply_sameControl .reti s⟩
  · have hstep : step s = .next (monitors (service n (afterReti s))) := by
      rw [step_reti hp hd, checkInterrupt, accepted_afterReti hpend hen hfirst]
    have hcfg : (afterReti s).cfg = s.cfg := by simp [afterReti]
    obtain ⟨hsp, htop⟩ := service_after_pop n hne (poppedFrom_afterReti s)
    refine ⟨_, hstep, ?_, ?_, (monitors_sp _).trans hsp, (State.stackByte_congr (monitors_stack _) _).trans htop⟩
    · rw [monitors_pc, service_pc, State.vector, hcfg]
    · rw [monitors_sr, service_sr]

end Sys2Proof.Machine

/-! PUSH and POP (45_stack R200, R201). -/

namespace Sys2Proof.Machine

/-- The register that POP writes receives the popped byte (45_stack R201). -/
theorem poppedFrom_popInto (d : Reg) (s : State) :
    PoppedFrom (((pop s).2.setX d (pop s).1).x d) s ((pop s).2.setX d (pop s).1) := by
  rw [State.x_setX_self]
  exact poppedFrom_pop s

/-- Settles O43: PUSH is a push of the register, POP a pop and then one register write. -/
theorem pushAndPopMoveOneByte : Obligations.PushAndPopMoveOneByte := by
  refine ⟨encodesReg_of_build (k := .push) fun _ _ => rfl, encodesReg_of_build (k := .pop) fun _ _ => rfl,
    fun s r => ⟨⟨push (s.x r) s, rfl, ?_⟩, ⟨(pop s).2.setX r (pop s).1, rfl, ?_⟩⟩⟩
  · exact ⟨pushedOn_push _ s, x_push _ s, push_sr _ s, push_pc _ s, byteAt_push _ s, push_stkUnf _ s, push_memOor _ s,
      apply_sameControl (.pushByte (s.x r)) s⟩
  · have hregs : SameRegsBut r s ((pop s).2.setX r (pop s).1) := fun q hq => by rw [State.x_setX, if_neg hq, x_pop_snd]
    exact ⟨poppedFrom_popInto r s, hregs, pop_snd_sr s, pop_snd_pc s,
      State.byteAt_congr (pop_snd_dmem s), pop_snd_stkOvf s, pop_snd_memOor s, apply_sameControl (.popInto r) s⟩

end Sys2Proof.Machine

/-! LSL and LSR (46_shift R210, R211). -/

namespace Sys2Proof.Machine

/-- LSL's shift is doubling: the bit that leaves is the one the byte cannot hold (46_shift R210). -/
theorem shiftLeft_one_eq_double (v : Byte) : v <<< 1 = BitVec.ofNat 8 (2 * v.toNat) := by
  apply BitVec.eq_of_toNat_eq
  rw [BitVec.toNat_shiftLeft, BitVec.toNat_ofNat, Nat.shiftLeft_eq, pow_one, Nat.mul_comm]

/-- LSR's shift is halving: zero enters at the top (46_shift R211). -/
theorem ushiftRight_one_eq_half (v : Byte) : v >>> 1 = BitVec.ofNat 8 (v.toNat / 2) := by
  rw [← Nat.shiftRight_one, ← BitVec.toNat_ushiftRight, BitVec.ofNat_toNat, BitVec.setWidth_eq]

/-- Settles O46: each shift is one register write, of twice the byte or of half of it. -/
theorem shiftsMoveByOneBit : Obligations.ShiftsMoveByOneBit := by
  refine ⟨encodesReg_of_build (k := .lsl) fun _ _ => rfl, encodesReg_of_build (k := .lsr) fun _ _ => rfl,
    fun s d => ⟨?_, ?_⟩⟩
  · rw [← shiftLeft_one_eq_double]
    exact loads_setX s d (s.x d <<< 1)
  · rw [← ushiftRight_one_eq_half]
    exact loads_setX s d (s.x d >>> 1)

end Sys2Proof.Machine

/-! SEI and CLI (47_interrupt_enable R220, R221): one write of I, which the check of the same step already sees. -/

namespace Sys2Proof.Machine

/-! ## The write of I -/

theorem onlyStatus_setI (b : Bool) (s : State) : OnlyStatus s (s.setI b) := by
  have hstack : SameStack s (s.setI b) := ⟨rfl, State.stackByte_setI s b⟩
  exact ⟨State.x_setI s b, rfl, State.byteAt_setI s b, hstack, ⟨rfl, rfl, rfl⟩, apply_sameControl (.setEnable b) s⟩

/-- The outcome of SEI and of CLI, apart from which value I takes. -/
theorem setI_writes_only_i (b : Bool) (s : State) :
    ∃ t, (.next (s.setI b) : Result) = .next t ∧ t.sr.i = b ∧ SameArithmeticFlags s t ∧ OnlyStatus s t :=
  ⟨s.setI b, rfl, rfl, apply_sameArithmeticFlags (e := .setEnable b) s rfl, onlyStatus_setI b s⟩

/-! ## The state that the step's check sees -/

/-- The state in which the step of SEI (`b` true) or CLI (`b` false) checks for an interrupt (40_control_unit R103). -/
def afterSetI (b : Bool) (s : State) : State := ((fetchDecode s).setI b).setPhase .fetch

theorem afterSetI_sr_i (b : Bool) (s : State) : (afterSetI b s).sr.i = b := rfl

theorem afterSetI_pc (b : Bool) (s : State) : (afterSetI b s).pc = s.pc + 1#8 := rfl

theorem afterSetI_sp (b : Bool) (s : State) : (afterSetI b s).sp = s.sp := rfl

theorem afterSetI_stack (b : Bool) (s : State) : (afterSetI b s).stack = s.stack := rfl

theorem afterSetI_vector (b : Bool) (s : State) (n : Source) : (afterSetI b s).vector n = s.vector n := rfl

theorem byteAt_afterSetI (b : Bool) (s : State) (a : Nat) : (afterSetI b s).byteAt a = s.byteAt a :=
  State.byteAt_congr (t := afterSetI b s) (fetchDecode_dmem s) a

/-- Right after SEI the first source that was pending and enabled is accepted (60_exceptions R240). -/
theorem accepted_afterSetI_true {s : State} {n : Source} (hp : pending s n = true) (he : enabled s n = true)
    (hfirst : ∀ m, m < n → ¬(pending s m = true ∧ enabled s m = true)) : accepted (afterSetI true s) = some n := by
  simp only [pending, enabled, ← byteAt_afterSetI true s] at hp he hfirst
  exact accepted_first (afterSetI_sr_i true s) hp he hfirst

/-! ## The two steps -/

/-- The step of an instruction that only writes I checks with the new I (40_control_unit R103). -/
theorem step_of_exec_setI {s : State} {i : Instr} {b : Bool}
    (hexec : exec i (fetchDecode s) = .next ((fetchDecode s).setI b)) (hphase : s.phase = .fetch)
    (hd : decode (progRead s s.pc) = .instr i) : step s = .next (monitors (checkInterrupt (afterSetI b s))) :=
  step_of_exec_next hphase hd hexec

/-- SEI's step services the first source that is pending and enabled (47_interrupt_enable R220). -/
theorem step_sei_of_request {s : State} {n : Source} (hphase : s.phase = .fetch)
    (hd : decode (progRead s s.pc) = .instr .sei) (hp : pending s n = true) (he : enabled s n = true)
    (hfirst : ∀ m, m < n → ¬(pending s m = true ∧ enabled s m = true)) :
    step s = .next (monitors (service n (afterSetI true s))) := by
  rw [step_of_exec_setI rfl hphase hd, checkInterrupt, accepted_afterSetI_true hp he hfirst]

/-- CLI's step services nothing (47_interrupt_enable R221). -/
theorem step_cli {s : State} (hphase : s.phase = .fetch) (hd : decode (progRead s s.pc) = .instr .cli) :
    step s = .next (monitors (afterSetI false s)) := by
  rw [step_of_exec_setI rfl hphase hd, checkInterrupt_disabled (afterSetI_sr_i false s)]

/-! ## The monitors after the check -/

/-- The monitors leave the byte that an interrupt entry pushed on top of the stack (60_exceptions R236, R241). -/
theorem stack_monitors_service_room (n : Source) {u : State} (h : u.sp.val ≠ 0) :
    (monitors (service n u)).sp.val = u.sp.val - 1 ∧
      (monitors (service n u)).stackByte (monitors (service n u)).sp.val = u.pc := by
  rw [State.stackByte_congr (monitors_stack (service n u)), monitors_sp]
  exact service_room n h

/-- A monitor clears no bit of data memory (60_exceptions R236). -/
theorem getLsbD_byteAt_monitor {n : Source} {s : State} {a j : Nat} (h : (s.byteAt a).getLsbD j = true) :
    ((monitor n s).byteAt a).getLsbD j = true := by
  rw [byteAt_monitor]
  split
  case isTrue hset =>
    obtain ⟨rfl, -⟩ := hset
    rw [BitVec.getLsbD_or, h, Bool.true_or]
  case isFalse => exact h

theorem getLsbD_byteAt_monitors {s : State} {a j : Nat} (h : (s.byteAt a).getLsbD j = true) :
    ((monitors s).byteAt a).getLsbD j = true :=
  getLsbD_byteAt_monitor (getLsbD_byteAt_monitor (getLsbD_byteAt_monitor h))

/-- Settles O47: each is one write of I before the step's check, which takes the first request with I set and none with I
clear. -/
theorem seiAndCliWriteOnlyI : Obligations.SeiAndCliWriteOnlyI := by
  refine ⟨encodesNone_of_build (k := .sei) fun _ _ => rfl, encodesNone_of_build (k := .cli) fun _ _ => rfl,
    fun s => ⟨setI_writes_only_i true s, setI_writes_only_i false s⟩, fun s n hphase hd hp he hfirst => ?_,
    fun s hphase hd => ?_⟩
  · refine ⟨_, step_sei_of_request hphase hd hp he hfirst, ?_, ?_, fun hroom => ?_⟩
    · rw [monitors_pc, service_pc, afterSetI_vector, State.vector]
    · rw [monitors_sr, service_sr]
    · exact stack_monitors_service_room n (u := afterSetI true s) hroom
  · refine ⟨_, step_cli hphase hd, ?_, ?_, ⟨?_, ?_⟩, fun j hj => ?_⟩
    · rw [monitors_pc, afterSetI_pc]
    · rw [monitors_sr, afterSetI_sr_i]
    · rw [monitors_sp, afterSetI_sp]
    · exact State.stackByte_congr ((monitors_stack _).trans (afterSetI_stack false s))
    · exact getLsbD_byteAt_monitors (by rwa [byteAt_afterSetI])

end Sys2Proof.Machine

/-! The moves of the host (70 R267, R268): each keeps the invariant, a pin write stores one byte, and it may as
well come before the fetch of the instruction it falls into. -/

namespace Sys2Proof.Machine

/-! ## The invariant -/

theorem doFetch_inv {s : State} (h : s.Inv) : (doFetch s).Inv := by
  obtain ⟨hdmem, hstack, hprog, hs, -⟩ := h
  exact ⟨hdmem, hstack, hprog, hs, show Phase.decode ≠ .invalid by decide⟩

theorem doDecode_inv {s : State} (h : s.Inv) : (doDecode s).Inv := by
  obtain ⟨hdmem, hstack, hprog, hs, -⟩ := h
  exact ⟨hdmem, hstack, hprog, hs, show Phase.execute ≠ .invalid by decide⟩

theorem transition_inv {s t : State} (h : s.Inv) (ht : transition s = .next t) : t.Inv := by
  rcases transition_cases ht with ⟨-, rfl⟩ | ⟨-, rfl⟩ | ⟨-, he⟩ | ⟨-, rfl⟩
  · exact doFetch_inv h
  · exact doDecode_inv h
  · exact doExecute_inv h he
  · obtain ⟨-, -, hprog, -, -⟩ := h
    exact engineReset_inv hprog

theorem memWrite_inv (a : Nat) (v : Byte) {s : State} (h : s.Inv) : (memWrite a v s).Inv := by
  obtain ⟨hdmem, hstack, hprog, hs, hphase⟩ := h
  refine ⟨memWrite_dmem_wf a v hdmem, ?_, ?_, ?_, ?_⟩
  · rwa [memWrite_stack]
  · rwa [memWrite_prog]
  · rwa [memWrite_sr]
  · rwa [memWrite_phase]

theorem hostMove_inv {m : HostMove} {s t : State} (h : s.Inv) (ht : hostMove m s = .next t) : t.Inv := by
  cases m with
  | step => exact transition_inv h ht
  | runInstruction => exact runInstruction_inv h ht
  | reset =>
    obtain ⟨-, -, hprog, -, -⟩ := h
    exact Host.Outcome.next.inj ht ▸ engineReset_inv hprog
  | writePin n v => exact Host.Outcome.next.inj ht ▸ memWrite_inv (pinAddr n) v h

/-- Settles O14: each move keeps the invariant, so a run of moves does. -/
theorem hostRunsKeepTheInvariant : Obligations.HostRunsKeepTheInvariant :=
  fun _ _ _ h ht => hostRun_keeps (P := State.Inv) hostMove_inv h ht

/-! ## Pin writes -/

theorem pinAddr_inRange (n : Source) : pinAddr n < dmemSize := by
  simp only [pinAddr, dmemSize]
  omega

theorem memWrite_sameControl (a : Nat) (v : Byte) (s : State) : SameControl s (memWrite a v s) := by
  simp [SameControl]

/-- A write in range changes its byte alone (20_memory R55). -/
theorem onlyMem_memWrite {a : Nat} (v : Byte) (s : State) (ha : a < dmemSize) : OnlyMem a s (memWrite a v s) :=
  ⟨memWrite_sameMemBut a v s, x_memWrite a v s, memWrite_sr a v s, memWrite_pc a v s,
    ⟨memWrite_sp a v s, stackByte_memWrite a v s⟩,
    ⟨memWrite_stkOvf a v s, memWrite_stkUnf a v s, memWrite_memOor_inRange v s ha⟩, memWrite_sameControl a v s⟩

/-- Settles O52: a pin write is one write of data memory, in range. -/
theorem hostPinWriteChangesOneCell : Obligations.HostPinWriteChangesOneCell := fun s n v =>
  ⟨hostWritePin n v s, rfl, byteAt_memWrite_self v s (pinAddr_inRange n), onlyMem_memWrite v s (pinAddr_inRange n)⟩

/-- FETCH reads program memory and no byte that a data write changes (40_control_unit R101, R107). -/
theorem memWrite_doFetch (a : Nat) (v : Byte) (s : State) : memWrite a v (doFetch s) = doFetch (memWrite a v s) := by
  unfold memWrite
  split <;> rfl

/-- DECODE reads the instruction register alone (40_control_unit R102, R107). -/
theorem memWrite_doDecode (a : Nat) (v : Byte) (s : State) : memWrite a v (doDecode s) = doDecode (memWrite a v s) := by
  unfold memWrite
  split <;> rfl

theorem hostRun_cons_of_next {m : HostMove} {s t : State} (ms : List HostMove) (h : hostMove m s = .next t) :
    hostRun (m :: ms) s = hostRun ms t := by
  rw [hostRun, h, andThen]

theorem hostRun_step_fetch (ms : List HostMove) {s : State} (hp : s.phase = .fetch) :
    hostRun (.step :: ms) s = hostRun ms (doFetch s) :=
  hostRun_cons_of_next ms (transition_fetch hp)

theorem hostRun_step_decode (ms : List HostMove) {s : State} (hp : s.phase = .decode) :
    hostRun (.step :: ms) s = hostRun ms (doDecode s) :=
  hostRun_cons_of_next ms (transition_decode hp)

theorem hostRun_writePin (ms : List HostMove) (n : Source) (v : Byte) (s : State) :
    hostRun (.writePin n v :: ms) s = hostRun ms (hostWritePin n v s) :=
  hostRun_cons_of_next ms rfl

/-- EXECUTE after FETCH and DECODE is the rest of the whole instruction (40_control_unit R106). -/
theorem hostRun_step_fetchDecode (ms : List HostMove) {s : State} (hp : s.phase = .fetch) :
    hostRun (.step :: ms) (fetchDecode s) = hostRun (.runInstruction :: ms) s := by
  have h : transition (fetchDecode s) = runInstruction s := by
    rw [transition_execute (fetchDecode_phase s), runInstruction_fetch hp]
  exact congrArg (andThen · (hostRun ms)) h

/-- Settles O53: a pin write commutes with FETCH and with DECODE. -/
theorem pinWritesMoveBeforeTheFetch : Obligations.PinWritesMoveBeforeTheFetch := by
  intro s n v hp
  have hw : (hostWritePin n v s).phase = .fetch := (memWrite_phase (pinAddr n) v s).trans hp
  have hfetch : hostWritePin n v (doFetch s) = doFetch (hostWritePin n v s) := memWrite_doFetch (pinAddr n) v s
  have hdecode : hostWritePin n v (doDecode (doFetch s)) = fetchDecode (hostWritePin n v s) :=
    (memWrite_doDecode (pinAddr n) v (doFetch s)).trans (congrArg doDecode hfetch)
  rw [hostRun_writePin, ← hostRun_step_fetchDecode [] hw]
  constructor
  · rw [hostRun_step_fetch _ hp, hostRun_writePin, hfetch, hostRun_step_decode _ rfl, fetchDecode]
  · rw [hostRun_step_fetch _ hp, hostRun_step_decode _ rfl, hostRun_writePin, hdecode]

end Sys2Proof.Machine

/-! The pin-change interrupts, one source at a time: taking one, the check's choice, and the monitor (60_exceptions
R236, R240, R241). -/

namespace Sys2Proof.Machine

theorem PushedOn.of_sameStack {v : Byte} {s u t : State} (h : PushedOn v u t) (hsp : u.sp = s.sp)
    (hstack : u.stack = s.stack) (hovf : u.stkOvf = s.stkOvf) : PushedOn v s t := by
  simpa only [PushedOn, SameStack, State.stackByte_congr hstack, hsp, hovf] using h

/-- Taking an interrupt pushes the `pc` on the stack as it was: clearing the flag is a write of data memory. -/
theorem pushedOn_service (n : Source) (s : State) : PushedOn s.pc s (service n s) := by
  have hpush : PushedOn s.pc (memClearBit pcifrAddr (pcifBit n) s) (service n s) := by
    rw [service, memClearBit_pc]
    exact pushedOn_push s.pc _
  exact hpush.of_sameStack (memClearBit_sp _ _ s) (memClearBit_stack _ _ s) (memClearBit_stkOvf _ _ s)

theorem service_sameControl (n : Source) (s : State) : SameControl s (service n s) := by
  simp [SameControl]

theorem byteAt_service_ne (n : Source) (s : State) {a : Nat} (h : a ≠ pcifrAddr) :
    (service n s).byteAt a = s.byteAt a := by
  rw [byteAt_service, if_neg h]

theorem getLsbD_pcifr_service (n : Source) (s : State) {j : Nat} (hj : j < 8) :
    ((service n s).byteAt pcifrAddr).getLsbD j = (decide (j ≠ n.val) && (s.byteAt pcifrAddr).getLsbD j) := by
  rw [byteAt_service, if_pos rfl, getLsbD_clearBit _ _ _ hj, Bool.and_comm, pcifBit]

/-- Settles O48: servicing clears one bit, pushes the `pc` and writes I and the `pc`. -/
theorem servicingSavesThePcAndGoesToTheVector : Obligations.ServicingSavesThePcAndGoesToTheVector := by
  intro n s
  exact ⟨service n s, rfl, fun _ => getLsbD_pcifr_service n s, fun _ => byteAt_service_ne n s, pushedOn_service n s,
    congrArg Status.i (service_sr n s), service_sameArithmeticFlags n s, service_pc n s,
    State.x_congr (service_regs n s), service_stkUnf n s, service_memOor n s, service_sameControl n s⟩

theorem checkInterrupt_of_accepted {s : State} {n : Source} (h : accepted s = some n) :
    checkInterrupt s = service n s := by
  rw [checkInterrupt, h]

theorem checkInterrupt_of_not_accepted {s : State} (h : accepted s = none) : checkInterrupt s = s := by
  rw [checkInterrupt, h]

/-- Where no source is both pending and enabled, nothing is accepted (60_exceptions R239). -/
theorem accepted_of_no_request {s : State} (h : ∀ m, ¬(pending s m = true ∧ enabled s m = true)) :
    accepted s = none := by
  simp [accepted, h]

/-- Settles O49: the accepted source is the first that is pending and enabled. -/
theorem checkServicesTheFirstEnabledPendingSource : Obligations.CheckServicesTheFirstEnabledPendingSource :=
  ⟨fun _ => checkInterrupt_disabled,
    fun _ _ hi hp he hfirst => checkInterrupt_of_accepted (accepted_first hi hp he hfirst),
    fun _ h => checkInterrupt_of_not_accepted (accepted_of_no_request h)⟩

theorem getLsbD_pcifr_monitor (n : Source) (s : State) {j : Nat} (hj : j < 8) :
    ((monitor n s).byteAt pcifrAddr).getLsbD j =
      ((s.byteAt pcifrAddr).getLsbD j || (decide (j = n.val) && pinChanged s n)) := by
  rw [byteAt_monitor]
  cases pinChanged s n with
  | true  => simp [getLsbD_setBit _ _ _ hj, pcifBit]
  | false => simp

theorem pinChanged_eq_decide (s : State) (n : Source) :
    pinChanged s n = decide ((s.byteAt (pinAddr n) ^^^ s.latch n) &&& s.byteAt (pcmskAddr n) ≠ 0x00#8) := by
  rw [Bool.eq_iff_iff, decide_eq_true_iff]
  exact bne_iff_ne

/-- Settles O50: a monitor sets its source's bit of `PCIFR` on a change and takes the pin byte as the new sample. -/
theorem monitorRaisesThePendingFlagOnAChange : Obligations.MonitorRaisesThePendingFlagOnAChange := by
  intro n s
  have hlatch : (monitor n s).latch n = s.byteAt (pinAddr n) := by rw [latch_monitor, if_pos rfl]
  have hother : ∀ m, m ≠ n → (monitor n s).latch m = s.latch m := fun m hm => by rw [latch_monitor, if_neg hm]
  exact ⟨monitor n s, rfl, fun _ hj => pinChanged_eq_decide s n ▸ getLsbD_pcifr_monitor n s hj,
    fun _ => byteAt_monitor_ne n s, hlatch, hother, State.x_congr (monitor_regs n s), monitor_sr n s, monitor_pc n s,
    ⟨monitor_sp n s, State.stackByte_congr (monitor_stack n s)⟩,
    ⟨monitor_stkOvf n s, monitor_stkUnf n s, monitor_memOor n s⟩, monitor_phase n s, monitor_ir n s,
    monitor_opc n s, monitor_op1 n s, monitor_op2 n s, monitor_cia n s, monitor_prog n s, monitor_cfg n s⟩

end Sys2Proof.Machine

/-! The full reset's table (10_state R41), and the sparse stores as canonical data (log entry 21). -/

namespace Sys2Proof.Machine

/-- Settles O1: the full reset is the start state with the program and the parameters kept. -/
theorem fullResetLeavesTheResetTable : Obligations.FullResetLeavesTheResetTable := by
  refine ⟨fun s => ⟨engineReset s, rfl, ?_⟩, fun _ => rfl, fun _ => rfl, fun _ _ => rfl, rfl⟩
  exact ⟨engineReset_x s, rfl, engineReset_toByte s, rfl, rfl, rfl, rfl, rfl, rfl, engineReset_byteAt s,
    engineReset_stackByte s, rfl, engineReset_latch s, rfl, rfl, rfl, rfl, rfl⟩

/-- A canonical store lists exactly the cells that read as other than 0. -/
theorem mem_iff_cellAt {w bound : Nat} {m : Cells w} (h : Cells.Wf bound m) (c : Nat × BitVec w) :
    c ∈ m ↔ c.2 ≠ 0#w ∧ cellAt m c.1 = c.2 := by
  obtain ⟨hrising, hcells⟩ := h
  constructor
  · intro hc
    obtain ⟨-, hne⟩ := hcells c hc
    exact ⟨hne, cellAt_of_mem hrising hc⟩
  · rintro ⟨hne, hread⟩
    obtain ⟨d, hd, hdc⟩ : ∃ d ∈ m, d.1 = c.1 := by
      by_contra hno
      push Not at hno
      exact hne (hread.symm.trans (cellAt_of_not_listed hno))
    have hval : d.2 = c.2 := by rw [← cellAt_of_mem hrising hd, hdc, hread]
    exact Prod.ext hdc hval ▸ hd

/-- Settles O33: the reads decide the listed cells, and a list by rising address is decided by its members. -/
theorem canonicalStoresWithEqualReadsAreEqual : Obligations.CanonicalStoresWithEqualReadsAreEqual := by
  intro w bound m n hm hn hread
  have hirrefl : Std.Irrefl fun c d : Nat × BitVec w => c.1 < d.1 := ⟨fun c => Nat.lt_irrefl c.1⟩
  have hantisymm : Std.Antisymm fun c d : Nat × BitVec w => c.1 < d.1 := ⟨fun _ _ h k => absurd k h.asymm⟩
  have ⟨hmrising, _⟩ := hm
  have ⟨hnrising, _⟩ := hn
  exact hmrising.eq_of_mem_iff hnrising fun c => by rw [mem_iff_cellAt hm, mem_iff_cellAt hn, hread]

end Sys2Proof.Machine
